-- ==== Sys2Proof/Word.lean ====
section
/-!
DEFINITION. The word types of the framer (00_scope.md R7, R8, R9): bytes, byte sequences, 16-bit and
32-bit words, host identifiers. A signed quantity (`i32`) is a `Word32` read with `BitVec.toInt`.
-/

namespace Sys2Proof

/-- One byte on the wire (R8). -/
abbrev Byte := BitVec 8

/-- `Bytes` of R8: a finite byte sequence, byte 0 first. -/
abbrev Bytes := List Byte

/-- A `u16` of R9: command codes, response codes, checksums (R7). -/
abbrev Word16 := BitVec 16

/-- A `u32` or `i32` of R9: parameters, time-outs, registers (R7). -/
abbrev Word32 := BitVec 32

/-- The identity of a host agent (R177); the spec gives it no width (log 19). -/
abbrev HostId := Nat

end Sys2Proof
end

