-- ==== Sys2Proof/Config.lean ====
section
/-!
DEFINITION. The configuration of the framer: every row of the parameter table of 00_scope.md R6 as a
field, with the value the table shows as its default, and the names of the 25 commands (30_encoding.md
R60) that the table `CMD_CODE` is indexed by. The state carries one configuration and no step changes
it (log 1). The free values stand in Machine/State.lean, beside the types they range over.
-/

namespace Sys2Proof

/-- The 25 command names of 30_encoding.md R60. -/
inductive Cmd where
  | openCmd | closeCmd | changeBaudRate | cmosLed | getEnrollCount | enrollStart | enroll1 | enroll2
  | enroll3 | isPressFinger | deleteId | verify | identify | verifyTemplate | identifyTemplate
  | captureFinger | makeTemplate | getImage | getRawImage | getTemplate | setTemplate
  | setSecurityLevel | getSecurityLevel | identifyTemplate2 | enterStandbyMode
  deriving DecidableEq, Repr, Inhabited

/-- Every command name, in the order of R60. -/
def Cmd.all : List Cmd :=
  [.openCmd, .closeCmd, .changeBaudRate, .cmosLed, .getEnrollCount, .enrollStart, .enroll1, .enroll2,
   .enroll3, .isPressFinger, .deleteId, .verify, .identify, .verifyTemplate, .identifyTemplate,
   .captureFinger, .makeTemplate, .getImage, .getRawImage, .getTemplate, .setTemplate,
   .setSecurityLevel, .getSecurityLevel, .identifyTemplate2, .enterStandbyMode]

/-- The parameter `CMD_CODE` (R6, R60, 92 D4). The defaults are the spec's general-knowledge values
(93 K1); PRESUMED, log 2. -/
structure CmdCodes where
  openCmd : Word16 := 0x0001
  closeCmd : Word16 := 0x0002
  changeBaudRate : Word16 := 0x0004
  cmosLed : Word16 := 0x0012
  getEnrollCount : Word16 := 0x0020
  enrollStart : Word16 := 0x0022
  enroll1 : Word16 := 0x0023
  enroll2 : Word16 := 0x0024
  enroll3 : Word16 := 0x0025
  isPressFinger : Word16 := 0x0026
  deleteId : Word16 := 0x0040
  verify : Word16 := 0x0050
  identify : Word16 := 0x0051
  verifyTemplate : Word16 := 0x0052
  identifyTemplate : Word16 := 0x0053
  captureFinger : Word16 := 0x0060
  makeTemplate : Word16 := 0x0061
  getImage : Word16 := 0x0062
  getRawImage : Word16 := 0x0063
  getTemplate : Word16 := 0x0070
  setTemplate : Word16 := 0x0071
  setSecurityLevel : Word16 := 0x00F0
  getSecurityLevel : Word16 := 0x00F1
  identifyTemplate2 : Word16 := 0x00F4
  enterStandbyMode : Word16 := 0x00F9
  deriving DecidableEq, Repr

/-- Parity of a UART character (`UART_FORMAT`, 92 D32). -/
inductive Parity where
  | noParity | even | odd
  deriving DecidableEq, Repr

/-- The parameter `UART_FORMAT` (R6, 92 D32). No framer rule reads it (log 34). -/
structure UartFormat where
  dataBits : Nat := 8
  parity : Parity := .noParity
  stopBits : Nat := 1
  deriving DecidableEq, Repr

/-- The parameter `HEX_CASE` (92 D35): the letter case of the host-side text of the device information. -/
inductive HexCase where
  | upper | lower
  deriving DecidableEq, Repr

/-- The configuration of R6, one field per row of its table (CAPACITY, which is computed, is
`Config.capacity`). The rows that the table marks "source" are pinned by `Config.wf`. -/
structure Config where
  /-- `DEVICE_ID` -/
  deviceId : Word16 := 0x0001
  /-- `HDR_START` -/
  hdrStart : Byte × Byte := (0x55, 0xAA)
  /-- `DP_START` -/
  dpStart : Byte × Byte := (0x5A, 0xA5)
  /-- `HDR_LEN` -/
  hdrLen : Nat := 12
  /-- `DP_OVERHEAD` -/
  dpOverhead : Nat := 6
  /-- `ACK` -/
  ack : Word16 := 0x0030
  /-- `NACK` -/
  nack : Word16 := 0x0031
  /-- `DUP_LIMIT` -/
  dupLimit : Int := 0x1001
  /-- `FAST_SEARCH_OK` -/
  fastSearchOk : Word32 := 0x55
  /-- `MODEL_CONSTANT`: an argument; 200 for the one model the source names (92 D21, log 4) -/
  modelConstant : Nat := 200
  /-- `DEFAULT_TIMEOUT_MS` -/
  defaultTimeoutMs : Word32 := 1000
  /-- `FINGER_QUERY_TIMEOUT_MS` -/
  fingerQueryTimeoutMs : Word32 := 2000
  /-- `ENROLL_TIMEOUT_MS` -/
  enrollTimeoutMs : Word32 := 5000
  /-- `FINGER_PLACE_WAIT_MS` -/
  fingerPlaceWaitMs : Nat := 10000
  /-- `POLL_MS` -/
  pollMs : Nat := 10
  /-- `SETTLE_MS` -/
  settleMs : Nat := 100
  /-- `PROBE_BAUD` -/
  probeBaud : Word32 := 9600
  /-- `TARGET_BAUD` -/
  targetBaud : Word32 := 115200
  /-- `CMD_CODE` -/
  cmdCode : CmdCodes := {}
  /-- `ERR_COMM_ERR` -/
  errCommErr : Word32 := 0x1006
  /-- `ERR_FINGER_NOT_PRESSED` -/
  errFingerNotPressed : Word32 := 0x1012
  /-- `RX_BUF_MAX` (92 D13) -/
  rxBufMax : Nat := 65536
  /-- `RX_DRAIN_AT_START` (92 D12) -/
  rxDrainAtStart : Bool := false
  /-- `SEC_LEVEL_MIN` -/
  secLevelMin : Word32 := 1
  /-- `SEC_LEVEL_MAX` -/
  secLevelMax : Word32 := 5
  /-- `PRESSED_VALUE` (92 D24) -/
  pressedValue : Word32 := 0
  /-- `LED_ON_PARAM` (92 D25) -/
  ledOnParam : Word32 := 1
  /-- `LED_OFF_PARAM` (92 D25): sent only by host programs -/
  ledOffParam : Word32 := 0
  /-- `CAPTURE_PARAM` (92 D27) -/
  captureParam : Word32 := 1
  /-- `FASTSEARCH_CMD`: open, no default (92 D33, log 5) -/
  fastSearchCmd : Option Cmd := none
  /-- `UART_FORMAT` (92 D32) -/
  uartFormat : UartFormat := {}
  /-- `HEX_CASE`: open (92 D35, log 6) -/
  hexCase : HexCase := .upper
  deriving DecidableEq, Repr

/-- The configuration with the defaults of R6. -/
def Config.default : Config := {}

/-- `CAPACITY = MODEL_CONSTANT - 1` (R6, 10_state.md R26), an `i32`. -/
def Config.capacity (cfg : Config) : Word32 :=
  BitVec.ofInt 32 ((cfg.modelConstant : Int) - 1)

/-- `CMD_CODE(c)` of R60. -/
def Config.codeOf (cfg : Config) : Cmd → Word16
  | .openCmd => cfg.cmdCode.openCmd
  | .closeCmd => cfg.cmdCode.closeCmd
  | .changeBaudRate => cfg.cmdCode.changeBaudRate
  | .cmosLed => cfg.cmdCode.cmosLed
  | .getEnrollCount => cfg.cmdCode.getEnrollCount
  | .enrollStart => cfg.cmdCode.enrollStart
  | .enroll1 => cfg.cmdCode.enroll1
  | .enroll2 => cfg.cmdCode.enroll2
  | .enroll3 => cfg.cmdCode.enroll3
  | .isPressFinger => cfg.cmdCode.isPressFinger
  | .deleteId => cfg.cmdCode.deleteId
  | .verify => cfg.cmdCode.verify
  | .identify => cfg.cmdCode.identify
  | .verifyTemplate => cfg.cmdCode.verifyTemplate
  | .identifyTemplate => cfg.cmdCode.identifyTemplate
  | .captureFinger => cfg.cmdCode.captureFinger
  | .makeTemplate => cfg.cmdCode.makeTemplate
  | .getImage => cfg.cmdCode.getImage
  | .getRawImage => cfg.cmdCode.getRawImage
  | .getTemplate => cfg.cmdCode.getTemplate
  | .setTemplate => cfg.cmdCode.setTemplate
  | .setSecurityLevel => cfg.cmdCode.setSecurityLevel
  | .getSecurityLevel => cfg.cmdCode.getSecurityLevel
  | .identifyTemplate2 => cfg.cmdCode.identifyTemplate2
  | .enterStandbyMode => cfg.cmdCode.enterStandbyMode

end Sys2Proof
end

