-- ==== Sys2Proof/Syntax.lean ====
section
/-!
DEFINITION. The instructions: one constructor per row of spec/opcode_table.json (30_encoding.md R60,
45_commands.md R129 to R153), each with the operands that stand on the wire: the 32-bit signed parameter
(R57) and, for the four data-packet commands (41_frame_serializer.md R80), the attached data.
-/

namespace Sys2Proof

/-- A command of the framer. -/
inductive Instr where
  /-- Open, R129 -/
  | openCmd (param : Word32)
  /-- Close, R130 -/
  | closeCmd (param : Word32)
  /-- ChangeBaudRate, R131 -/
  | changeBaudRate (param : Word32)
  /-- CmosLed, R132 -/
  | cmosLed (param : Word32)
  /-- GetEnrollCount, R133 -/
  | getEnrollCount (param : Word32)
  /-- EnrollStart, R134 -/
  | enrollStart (param : Word32)
  /-- Enroll1, R135 -/
  | enroll1 (param : Word32)
  /-- Enroll2, R136 -/
  | enroll2 (param : Word32)
  /-- Enroll3, R137 -/
  | enroll3 (param : Word32)
  /-- IsPressFinger, R138 -/
  | isPressFinger (param : Word32)
  /-- DeleteId, R139 -/
  | deleteId (param : Word32)
  /-- Verify, R140 -/
  | verify (param : Word32)
  /-- Identify, R141 -/
  | identify (param : Word32)
  /-- VerifyTemplate, R142 -/
  | verifyTemplate (param : Word32) (data : Bytes)
  /-- IdentifyTemplate, R143 -/
  | identifyTemplate (param : Word32) (data : Bytes)
  /-- CaptureFinger, R145 -/
  | captureFinger (param : Word32)
  /-- MakeTemplate, R146 -/
  | makeTemplate (param : Word32)
  /-- GetImage, R147 -/
  | getImage (param : Word32)
  /-- GetRawImage, R148 -/
  | getRawImage (param : Word32)
  /-- GetTemplate, R149 -/
  | getTemplate (param : Word32)
  /-- SetTemplate, R150 -/
  | setTemplate (param : Word32) (data : Bytes)
  /-- SetSecurityLevel, R151 -/
  | setSecurityLevel (param : Word32)
  /-- GetSecurityLevel, R152 -/
  | getSecurityLevel (param : Word32)
  /-- IdentifyTemplate2, R144 -/
  | identifyTemplate2 (param : Word32) (data : Bytes)
  /-- EnterStandbyMode, R153 -/
  | enterStandbyMode (param : Word32)
  deriving DecidableEq, Repr

/-- The command name of an instruction. -/
def Instr.cmd : Instr → Cmd
  | .openCmd _ => .openCmd
  | .closeCmd _ => .closeCmd
  | .changeBaudRate _ => .changeBaudRate
  | .cmosLed _ => .cmosLed
  | .getEnrollCount _ => .getEnrollCount
  | .enrollStart _ => .enrollStart
  | .enroll1 _ => .enroll1
  | .enroll2 _ => .enroll2
  | .enroll3 _ => .enroll3
  | .isPressFinger _ => .isPressFinger
  | .deleteId _ => .deleteId
  | .verify _ => .verify
  | .identify _ => .identify
  | .verifyTemplate _ _ => .verifyTemplate
  | .identifyTemplate _ _ => .identifyTemplate
  | .captureFinger _ => .captureFinger
  | .makeTemplate _ => .makeTemplate
  | .getImage _ => .getImage
  | .getRawImage _ => .getRawImage
  | .getTemplate _ => .getTemplate
  | .setTemplate _ _ => .setTemplate
  | .setSecurityLevel _ => .setSecurityLevel
  | .getSecurityLevel _ => .getSecurityLevel
  | .identifyTemplate2 _ _ => .identifyTemplate2
  | .enterStandbyMode _ => .enterStandbyMode

/-- The command parameter of an instruction (R57). -/
def Instr.param : Instr → Word32
  | .openCmd p | .closeCmd p | .changeBaudRate p | .cmosLed p | .getEnrollCount p | .enrollStart p
  | .enroll1 p | .enroll2 p | .enroll3 p | .isPressFinger p | .deleteId p | .verify p | .identify p
  | .verifyTemplate p _ | .identifyTemplate p _ | .captureFinger p | .makeTemplate p | .getImage p
  | .getRawImage p | .getTemplate p | .setTemplate p _ | .setSecurityLevel p | .getSecurityLevel p
  | .identifyTemplate2 p _ | .enterStandbyMode p => p

/-- The attached data of an instruction (R80): present for the four data-packet commands only. -/
def Instr.data : Instr → Option Bytes
  | .verifyTemplate _ d | .identifyTemplate _ d | .setTemplate _ d | .identifyTemplate2 _ d => some d
  | .openCmd _ | .closeCmd _ | .changeBaudRate _ | .cmosLed _ | .getEnrollCount _ | .enrollStart _
  | .enroll1 _ | .enroll2 _ | .enroll3 _ | .isPressFinger _ | .deleteId _ | .verify _ | .identify _
  | .captureFinger _ | .makeTemplate _ | .getImage _ | .getRawImage _ | .getTemplate _
  | .setSecurityLevel _ | .getSecurityLevel _ | .enterStandbyMode _ => none

end Sys2Proof
end

