-- ==== Sys2Proof/Machine/Operands.lean ====
section
/-!
DEFINITION. Operand assembly: the little-endian codecs and the checksum-16 unit (40_checksum_codec.md
R70 to R76), the command serializer (41_frame_serializer.md R77 to R85), and the per-command tables: data
lengths out and in, the length prediction (43_length_prediction.md R100 to R104) and the client time-outs
(30_encoding.md R60). Every function here is pure. `none` from a function that answers an `Option` is a
violated precondition, which the caller turns into a fault (60_exceptions.md R168(a), 93 I1 and I2).
-/

namespace Sys2Proof

/-- The inclusive slice `b[i..j]` of 00_scope.md R8, empty when `j < i`. -/
def slice (b : Bytes) (i j : Nat) : Bytes :=
  (b.drop i).take (j + 1 - i)

/-- The sum of the unsigned byte values of `b`, not yet reduced. -/
def byteSum : Bytes → Nat
  | [] => 0
  | x :: xs => x.toNat + byteSum xs

/-- The additive 16-bit sum of `b`, modulo 65536 (R70). -/
def sum16 (b : Bytes) : Word16 :=
  BitVec.ofNat 16 (byteSum b)

/-- `CHK16(b, s, e)` of R70, with inclusive indices; `none` outside its precondition. -/
def chk16 (b : Bytes) (s e : Int) : Option Word16 :=
  if 0 ≤ s ∧ s ≤ e ∧ e < b.length then
    some (sum16 (slice b s.toNat e.toNat))
  else
    none

/-- `le16(v)` of R73. -/
def le16 (v : Word16) : Bytes :=
  [v.extractLsb' 0 8, v.extractLsb' 8 8]

/-- `le32(v)` of R73. -/
def le32 (v : Word32) : Bytes :=
  [v.extractLsb' 0 8, v.extractLsb' 8 8, v.extractLsb' 16 8, v.extractLsb' 24 8]

/-- `u16le(b, i)` of R74; `none` unless `i + 1 < len(b)`. -/
def u16le (b : Bytes) (i : Nat) : Option Word16 :=
  match b[i]?, b[i + 1]? with
  | some b0, some b1 => some (BitVec.ofNat 16 (b0.toNat + 2 ^ 8 * b1.toNat))
  | _, _ => none

/-- `u32le(b, i)` of R74, and `i32le(b, i)` as a bit pattern; `none` unless `i + 3 < len(b)`. -/
def u32le (b : Bytes) (i : Nat) : Option Word32 :=
  match b[i]?, b[i + 1]?, b[i + 2]?, b[i + 3]? with
  | some b0, some b1, some b2, some b3 =>
    some (BitVec.ofNat 32
      (b0.toNat + 2 ^ 8 * b1.toNat + 2 ^ 16 * b2.toNat + 2 ^ 24 * b3.toNat))
  | _, _, _, _ => none

/-- `i32le(b, i)` of R74: the same 32-bit pattern, which its users read as two's complement. -/
def i32le (b : Bytes) (i : Nat) : Option Word32 :=
  u32le b i

/-- `VALID16(b, s, e)` of R72: a range of fewer than 3 bytes is invalid, not a fault (92 D45). -/
def valid16 (b : Bytes) (s e : Int) : Option Bool :=
  if 0 ≤ s ∧ e < b.length then
    if e - s < 2 then
      some false
    else
      match chk16 b s (e - 2), u16le b (e - 1).toNat with
      | some sum, some stored => some (sum == stored)
      | _, _ => none
  else
    none

/-- A frame body followed by its checksum, the sum of every byte before it (R53, R71). -/
def withChecksum (body : Bytes) : Bytes :=
  body ++ le16 (sum16 body)

/-- The ten bytes of a header frame that its checksum covers (R51, R77). -/
def headerBody (cfg : Config) (code : Word16) (param : Word32) : Bytes :=
  [cfg.hdrStart.1, cfg.hdrStart.2] ++ le16 cfg.deviceId ++ le32 param ++ le16 code

/-- `BUILD_CMD(code, param)` of R77. -/
def buildCmd (cfg : Config) (code : Word16) (param : Word32) : Bytes :=
  withChecksum (headerBody cfg code param)

/-- `BUILD_DP(data)` of R84. -/
def buildDp (cfg : Config) (data : Bytes) : Bytes :=
  withChecksum ([cfg.dpStart.1, cfg.dpStart.2] ++ le16 cfg.deviceId ++ data)

/-- `DP_OUT_LEN` of R80: the data length a data-packet command requires. -/
def dpOutLen : Cmd → Option Nat
  | .verifyTemplate => some 498
  | .identifyTemplate => some 498
  | .identifyTemplate2 => some 500
  | .setTemplate => some 498
  | _ => none

/-- `DP_IN_LEN` of R100: the data length of the reply. -/
def dpInLen : Cmd → Option Nat
  | .openCmd => some 24
  | .enroll3 => some 498
  | .makeTemplate => some 498
  | .getImage => some 52116
  | .getRawImage => some 19200
  | .getTemplate => some 498
  | _ => none

/-- `PREDICT(code, param)` of R103, with the overrides R101 and R102. -/
def predict (cfg : Config) (c : Cmd) (param : Word32) : Word32 :=
  match dpInLen c with
  | none => BitVec.ofNat 32 cfg.hdrLen
  | some n =>
    if c = .openCmd ∧ param = 0 then BitVec.ofNat 32 cfg.hdrLen
    else if c = .enroll3 ∧ param ≠ -1 then BitVec.ofNat 32 cfg.hdrLen
    else BitVec.ofNat 32 (cfg.hdrLen + cfg.dpOverhead + n)

/-- The client time-out column of 30_encoding.md R60 (used when a `timeout=` is absent, R68). -/
def clientTimeout (cfg : Config) : Cmd → Word32
  | .enroll1 => cfg.enrollTimeoutMs
  | .enroll2 => cfg.enrollTimeoutMs
  | .enroll3 => cfg.enrollTimeoutMs
  | .isPressFinger => cfg.fingerQueryTimeoutMs
  | _ => cfg.defaultTimeoutMs

end Sys2Proof
end

