-- ==== Sys2Proof/WellFormed.lean ====
section
/-!
DEFINITION. What makes an instruction well formed (the attached data has the length of
41_frame_serializer.md R80), and what makes a configuration well formed (the rows of 00_scope.md R6 that
the table marks "source" have the source's values, and the command codes are distinct, 91 N3).
-/

namespace Sys2Proof

/-- The data of a data-packet command has the length of `DP_OUT_LEN` (R80, R81); every other
instruction is well formed. -/
def Instr.wellFormed (i : Instr) : Bool :=
  match i.data with
  | none => true
  | some d => dpOutLen i.cmd == some d.length

/-- Two commands with one code are one command: the closed enumeration of R60 is unambiguous. -/
def Config.codesDistinct (cfg : Config) : Bool :=
  Cmd.all.all fun c => Cmd.all.all fun d => (cfg.codeOf c != cfg.codeOf d) || (c == d)

/-- The rows of R6 whose ground is the source have the source's values. -/
def Config.sourceRows (cfg : Config) : Bool :=
  cfg.deviceId == 0x0001 && cfg.hdrStart == (0x55, 0xAA) && cfg.dpStart == (0x5A, 0xA5)
    && cfg.hdrLen == 12 && cfg.dpOverhead == 6 && cfg.ack == 0x0030 && cfg.nack == 0x0031
    && cfg.dupLimit == 0x1001 && cfg.fastSearchOk == 0x55 && cfg.defaultTimeoutMs == 1000
    && cfg.fingerQueryTimeoutMs == 2000 && cfg.enrollTimeoutMs == 5000
    && cfg.fingerPlaceWaitMs == 10000 && cfg.pollMs == 10 && cfg.settleMs == 100
    && cfg.probeBaud == 9600 && cfg.targetBaud == 115200

/-- A well-formed configuration. -/
def Config.wf (cfg : Config) : Bool :=
  cfg.sourceRows && cfg.codesDistinct

end Sys2Proof
end

