-- ==== Sys2Proof/Decode.lean ====
section
/-!
DEFINITION. The decoder and the encoder. A request at the host port is a code, a parameter and optional
data (30_encoding.md R66); `decodeRequest` is CHECK_REQUEST (44_transaction_sequencer.md R108) together
with the instruction it lets through. On the wire an instruction is a 12-byte header frame (R51) followed,
for a data-packet command, by a bulk sub-frame (R52); `decode` reads those bytes, rejecting by name, and
`encode` writes them.
-/

namespace Sys2Proof

/-- The rejection reasons of 10_state.md R24 (codes 1 to 4), with `noReject` for code 0. -/
inductive RejectReason where
  | noReject
  /-- 1: unknown command code (R63) -/
  | unknownCode
  /-- 2: data length mismatch (R81) -/
  | dataLength
  /-- 3: data missing for a data-packet command (R82) -/
  | dataMissing
  /-- 4: data supplied for a command without a data packet (R82) -/
  | dataUnexpected
  deriving DecidableEq, Repr

/-- The command a code stands for in `CMD_CODE`, if any (R60, R63). -/
def cmdOfCode (cfg : Config) (code : Word16) : Option Cmd :=
  Cmd.all.find? fun c => cfg.codeOf c == code

/-- `CHECK_REQUEST(code, data)` of R108, in the order of 41_frame_serializer.md R83. -/
def checkRequest (cfg : Config) (code : Word16) (data : Option Bytes) : RejectReason :=
  match cmdOfCode cfg code with
  | none => .unknownCode
  | some c =>
    match dpOutLen c, data with
    | none, none => .noReject
    | none, some _ => .dataUnexpected
    | some _, none => .dataMissing
    | some n, some d => if d.length = n then .noReject else .dataLength

/-- `BUILD_CMD_WITH_DATA(code, param, data)` of 41_frame_serializer.md R81: the frames of both stages, or
the reason it rejects. -/
def buildCmdWithData (cfg : Config) (code : Word16) (param : Word32) (data : Bytes) :
    Except RejectReason (Bytes × Bytes) :=
  match (cmdOfCode cfg code).bind dpOutLen with
  | none => .error .dataUnexpected
  | some n =>
    if data.length ≠ n then .error .dataLength
    else .ok (buildCmd cfg code param, buildDp cfg data)

/-- The instruction of a command name and its operands; the data counts for the four data-packet
commands only. -/
def Instr.ofCmd (c : Cmd) (p : Word32) (d : Bytes) : Instr :=
  match c with
  | .openCmd => .openCmd p
  | .closeCmd => .closeCmd p
  | .changeBaudRate => .changeBaudRate p
  | .cmosLed => .cmosLed p
  | .getEnrollCount => .getEnrollCount p
  | .enrollStart => .enrollStart p
  | .enroll1 => .enroll1 p
  | .enroll2 => .enroll2 p
  | .enroll3 => .enroll3 p
  | .isPressFinger => .isPressFinger p
  | .deleteId => .deleteId p
  | .verify => .verify p
  | .identify => .identify p
  | .verifyTemplate => .verifyTemplate p d
  | .identifyTemplate => .identifyTemplate p d
  | .captureFinger => .captureFinger p
  | .makeTemplate => .makeTemplate p
  | .getImage => .getImage p
  | .getRawImage => .getRawImage p
  | .getTemplate => .getTemplate p
  | .setTemplate => .setTemplate p d
  | .setSecurityLevel => .setSecurityLevel p
  | .getSecurityLevel => .getSecurityLevel p
  | .identifyTemplate2 => .identifyTemplate2 p d
  | .enterStandbyMode => .enterStandbyMode p

/-- The instruction of a request that passes CHECK_REQUEST, or the reason it does not (R108). -/
def decodeRequest (cfg : Config) (code : Word16) (param : Word32) (data : Option Bytes) :
    Except RejectReason Instr :=
  match checkRequest cfg code data, cmdOfCode cfg code with
  | .noReject, some c => .ok (Instr.ofCmd c param (data.getD []))
  | r, _ => .error r

/-- Why bytes are no instruction. -/
inductive DecodeError where
  /-- fewer than 12 bytes (R51) -/
  | shortHeader
  /-- the header's start code is not `HDR_START` (R51) -/
  | headerStart
  /-- the header's device id is not `DEVICE_ID` (R54) -/
  | headerDeviceId
  /-- the header's checksum does not match (R53) -/
  | headerChecksum
  /-- a remainder too short for a bulk sub-frame (R52) -/
  | shortPacket
  /-- the bulk sub-frame's start code is not `DP_START` (R52) -/
  | packetStart
  /-- the bulk sub-frame's device id is not `DEVICE_ID` (R54) -/
  | packetDeviceId
  /-- the bulk sub-frame's checksum does not match (R53) -/
  | packetChecksum
  /-- CHECK_REQUEST rejects the request (R108) -/
  | rejected (r : RejectReason)
  deriving DecidableEq, Repr

/-- The data of the bulk sub-frame `r` of R52, or why it is none. -/
def decodePacket (cfg : Config) (r : Bytes) : Except DecodeError Bytes :=
  if r.length < 6 then .error .shortPacket
  else if r.take 2 ≠ [cfg.dpStart.1, cfg.dpStart.2] then .error .packetStart
  else if slice r 2 3 ≠ le16 cfg.deviceId then .error .packetDeviceId
  else if valid16 r 0 (r.length - 1) ≠ some true then .error .packetChecksum
  else .ok (slice r 4 (r.length - 3))

/-- The request a command frame carries: the fields of the header (R51, R57, R58) and the data of the
bulk sub-frame after it, if bytes follow the header. Total on any bytes. -/
def decode (cfg : Config) (b : Bytes) : Except DecodeError Instr :=
  if b.length < 12 then .error .shortHeader
  else if b.take 2 ≠ [cfg.hdrStart.1, cfg.hdrStart.2] then .error .headerStart
  else if slice b 2 3 ≠ le16 cfg.deviceId then .error .headerDeviceId
  else if valid16 b 0 11 ≠ some true then .error .headerChecksum
  else
    match i32le b 4, u16le b 8 with
    | some param, some code =>
      if b.length = 12 then
        match decodeRequest cfg code param none with
        | .ok i => .ok i
        | .error r => .error (.rejected r)
      else
        match decodePacket cfg (b.drop 12) with
        | .ok d =>
          match decodeRequest cfg code param (some d) with
          | .ok i => .ok i
          | .error r => .error (.rejected r)
        | .error e => .error e
    | _, _ => .error .shortHeader

/-- The bytes of an instruction: its header frame (R77) and, for a data-packet command, its bulk
sub-frame (R84). -/
def encode (cfg : Config) (i : Instr) : Bytes :=
  buildCmd cfg (cfg.codeOf i.cmd) i.param ++
    match i.data with
    | none => []
    | some d => buildDp cfg d

/-- The attached data of zeros that a code's command needs (log 12). -/
def zeroData (cfg : Config) (code : Word16) : Option Bytes :=
  match cmdOfCode cfg code with
  | none => none
  | some c =>
    match dpOutLen c with
    | none => none
    | some n => some (List.replicate n 0)

/-- The bytes of the command whose code field is `w` and whose operands (parameter and data) are zeros,
in the default configuration (log 12). -/
def tableBytes (w : Word16) : Bytes :=
  buildCmd Config.default w 0 ++
    match zeroData Config.default w with
    | none => []
    | some d => buildDp Config.default d

/-- The instruction the decoder reads from a word of spec/opcode_table.json: `w` is the code field
(bytes 8 and 9 of the header frame), and every operand bit above it is 0 (log 12). -/
def decodeTableWord (nbits w : Nat) : Option Instr :=
  if w % 2 ^ nbits < 2 ^ 16 then
    match decode Config.default (tableBytes (BitVec.ofNat 16 (w % 2 ^ nbits))) with
    | .ok i => some i
    | .error _ => none
  else
    none

end Sys2Proof
end

