-- ==== Sys2Proof/Machine/State.lean ====
section
/-!
DEFINITION. The state: the framer's record of 10_state.md R13, the channel and the other agents of its
environment (00_scope.md R5), the moves those agents make, the reset values (R31), the reasons a step can
stop, and the free values. Plain data throughout.
-/

namespace Sys2Proof.Machine

/-- The sequencer's phases (R16); the codes are `Phase.code`. -/
inductive Phase where
  | idle | send | flush | poll | check | wait
  deriving DecidableEq, Repr

/-- The error kinds of R24; the codes are `ErrKind.code`. -/
inductive ErrKind where
  | noError | invalidChecksum | duplicate | device | communication | construction | cancelled
  deriving DecidableEq, Repr

/-- The response classes of 42_response_parser.md R95. -/
inductive RespClass where
  | basic | init | fastSearch | count | level | userId | template | image
  deriving DecidableEq, Repr

/-- The request record of R18. `host` is none only in the reset value (R31). -/
structure Request where
  code : Word16
  param : Word32
  data : Option Bytes
  timeoutMs : Word32
  host : Option HostId
  deriving DecidableEq, Repr

/-- The response record of 00_scope.md R11. -/
structure Resp where
  raw : Bytes
  param : Word32
  code : Word16
  hdrOk : Bool
  dp : Option Bytes
  dpOk : Bool
  synth : Bool
  deriving DecidableEq, Repr

/-- The result record of R22. -/
structure Result where
  resp : Option Resp
  baseOk : Bool
  classOk : Bool
  kind : ErrKind
  errValue : Word32
  reject : RejectReason
  stage2 : Bool
  ovf : Bool
  deriving DecidableEq, Repr

/-- The device-information cache's content (R25, 42_response_parser.md R96). -/
structure DevInfo where
  fw : Word32
  iso : Word32
  serial : Bytes
  deriving DecidableEq, Repr

/-- `VALUE(resp, class)` of R95: no value, an integer, a byte sequence, or device information. -/
inductive Value where
  | noValue
  | int (v : Word32)
  | bytes (b : Bytes)
  | devInfo (d : DevInfo)
  deriving DecidableEq, Repr

/-- The channel's answer to a `TxWrite` or `TxFlush` (00_scope.md R10): done, failed (after taking the
first `taken` bytes of a write, a number the spec leaves open), or not completed yet (93 I8, I9; log 14). -/
inductive TxAnswer where
  | ok
  | fail (taken : Nat)
  | pending
  deriving DecidableEq, Repr

/-- `Place` and `Remove` of 46_client_sequences.md R158. -/
inductive FingerAction where
  | place | remove
  deriving DecidableEq, Repr

/-- What follows a finger wait inside a client sequence: its value is returned, or it decides a capture
(R159), whose result is returned or decides an enrollment iteration (R160). -/
inductive AfterCapture where
  | ret
  | enroll (iteration : Cmd) (userId : Word32)
  deriving DecidableEq, Repr

/-- See `AfterCapture`. -/
inductive AfterWait where
  | ret
  | capture (cls : RespClass) (k : AfterCapture)
  deriving DecidableEq, Repr

/-- A finger wait in progress (R158): the action, the time-out, the start time `t0`, what follows. -/
structure Finger where
  action : FingerAction
  timeoutMs : Nat
  t0 : Nat
  after : AfterWait
  deriving DecidableEq, Repr

/-- Where a client sequence goes on after the step it waits for (46_client_sequences.md). -/
inductive Cont where
  /-- a plain TXN (R69): return its result -/
  | command
  /-- the reply of an IsPressFinger query (R158) -/
  | fingerReply (f : Finger)
  /-- the delay between two queries (R158) -/
  | fingerAgain (f : Finger)
  /-- the reply of CaptureFinger (R159) -/
  | captureReply (cls : RespClass) (k : AfterCapture)
  /-- the reply of EnrollStart (R160); `iteration` is the command that ends the iteration -/
  | enrollStartReply (iteration : Cmd) (userId : Word32)
  /-- the reply of Enroll1, Enroll2 or Enroll3 (R160) -/
  | enrollReply
  /-- the port is open at `PROBE_BAUD` (R162) -/
  | probeOpened
  /-- the settle delay after it -/
  | probeSettled
  /-- the reply of ChangeBaudRate (R163) -/
  | baudReply
  /-- the port is closed for the rate change -/
  | switchClosed
  /-- the settle delay after it -/
  | switchSettled
  /-- the port is open at `TARGET_BAUD` -/
  | targetOpened
  /-- the settle delay after it -/
  | targetSettled
  /-- the reply of Open with parameter 1 (R164) -/
  | openReply
  /-- the reply of CmosLed (R162) -/
  | ledReply
  /-- the reply of Close (R165) -/
  | closeReply
  /-- the port is closed at the end of a session -/
  | sessionClosed
  /-- the settle delay after it -/
  | sessionSettled
  deriving DecidableEq, Repr

/-- What a client sequence returns. -/
inductive ClientOutcome where
  /-- a `Result` (R159, R160, R69), of kind CONSTRUCTION where the argument checks fail (R155 to R157) -/
  | result (r : Result)
  /-- the answer of WAIT_FOR_FINGER (R158) -/
  | bool (b : Bool)
  /-- SESSION_OPEN or SESSION_CLOSE ended normally (R162, R165) -/
  | ok
  /-- SESSION_OPEN failed (R162, R169) -/
  | fatal
  deriving DecidableEq, Repr

/-- A host's client task: its next atomic step, or its outcome. -/
inductive Task where
  | submit (c : Cmd) (param : Word32) (data : Option Bytes) (timeoutMs : Word32) (k : Cont)
  | take (k : Cont)
  | delay (until_ : Nat) (k : Cont)
  | portOpen (baud : Word32) (k : Cont)
  | portClose (k : Cont)
  | finished (o : ClientOutcome)
  deriving DecidableEq, Repr

/-- The client operations a host can start (46_client_sequences.md). -/
inductive ClientOp where
  /-- one command after its argument checks (R155, R156), with the client time-out when none is given
  (30_encoding.md R68, R69) -/
  | command (c : Cmd) (param : Word32) (data : Option Bytes) (timeoutMs : Option Word32)
  | waitForFinger (action : FingerAction) (timeoutMs : Nat)
  | captureWithPattern (cls : RespClass) (timeoutMs : Nat)
  | enroll (iteration : Int) (userId : Word32)
  | sessionOpen
  | sessionClose
  deriving DecidableEq, Repr

/-- What a port operation returned (30_encoding.md R66): the model's record of it (log 31). -/
inductive PortReply where
  | result (h : HostId) (r : Result)
  | register (h : HostId) (n : Nat) (v : Word32)
  | value (h : HostId) (v : Value)
  | opened (h : HostId) (ok : Bool)
  deriving DecidableEq, Repr

/-- One move of one agent (00_scope.md R5). Which agent moves next is free (44_transaction_sequencer.md
R125, 60_exceptions.md R170); a move whose guard does not hold leaves the machine as it is (log 9). -/
inductive Move where
  /-- host h: SUBMIT (R107) -/
  | submit (h : HostId) (code : Word16) (param : Word32) (data : Option Bytes) (timeoutMs : Word32)
  /-- host h: CANCEL (R118 to R120) -/
  | cancel (h : HostId)
  /-- host h: TAKE (R121) -/
  | take (h : HostId)
  /-- host h: RDREG (R67) -/
  | readReg (h : HostId) (n : Nat)
  /-- host h: read VALUE of the result it took last, under a class (R95, R97) -/
  | readValue (h : HostId) (cls : RespClass)
  /-- host h: PORT_OPEN (R154) -/
  | portOpen (h : HostId) (baud : Word32)
  /-- host h: PORT_CLOSE (R154) -/
  | portClose (h : HostId)
  /-- host h starts a client operation -/
  | start (h : HostId) (op : ClientOp)
  /-- host h takes the next step of its client task -/
  | client (h : HostId)
  /-- sequencer: GRANT, picking waiter h (R109) -/
  | grant (h : HostId)
  /-- sequencer: the step of the current phase (R110 to R114) -/
  | seq
  /-- channel: how it will answer from now on -/
  | channel (a : TxAnswer) (openOk keeps : Bool)
  /-- device: deliver bytes into the channel (R125) -/
  | device (b : Bytes)
  /-- time base: one millisecond (R125) -/
  | tick
  /-- reset (70_reset_and_hazards.md R180) -/
  | reset
  deriving DecidableEq, Repr, Inhabited

/-- `FramerState` of R13, with the DONE flag of STATUS (R23, R109, R117). `waiters` and `mailbox` are maps
in the canonical form of Machine/HostMap.lean. -/
structure Framer where
  owner : Option HostId
  waiters : List (HostId × Request)
  phase : Phase
  stage : Fin 3
  req : Request
  expLen : Word32
  rxbuf : Bytes
  tOrigin : Nat
  nextPoll : Nat
  result : Result
  doneFlag : Bool
  mailbox : List (HostId × Result)
  devinfo : Option DevInfo
  capacity : Word32
  deriving DecidableEq, Repr

/-- The channel agent (00_scope.md R4(a), R5(c), R10): the outbound stream and the bytes held for the
framer (20_memory.md R32), whether and at which rate it is open, and its free inputs (log 14, log 16). -/
structure Channel where
  outbound : Bytes
  inbound : Bytes
  port : Option Word32
  txAnswer : TxAnswer
  openAnswer : Bool
  keepsBytes : Bool
  deriving DecidableEq, Repr

/-- The machine: the framer, the channel, the time base, the hosts' client tasks and what the port
returned to them, the moves to come, and the model's own fields (INVENTORY.md, State). -/
structure State extends Framer, Channel where
  /-- the configuration of R6; no step changes it (log 1) -/
  cfg : Config
  /-- the time base (R125, R176) -/
  now : Nat
  /-- the hosts' client tasks (log 23) -/
  clients : List (HostId × Task)
  /-- the result each host took last (log 31) -/
  taken : List (HostId × Result)
  /-- what the last port operation returned (log 31) -/
  reply : Option PortReply
  /-- the moves of the next steps (log 8) -/
  moves : List Move
  /-- how many moves were taken from the free value `Config.freeMove` (log 8) -/
  freeMoves : Nat
  /-- how many sequencer steps were taken; indexes `Config.freeRead` (log 17) -/
  seqSteps : Nat
  deriving DecidableEq, Repr

/-- Why a step stops with a fault. -/
inductive Fault where
  /-- CHK16 or a field decoder was asked for bytes outside its precondition (R70, R74, 93 I1, I2). Raised
  by STAGE_END when PARSE reads past the received bytes; no run from reset reaches it. Safe. -/
  | fieldRange
  /-- A host read the IMAGE value of a response with no data packet (R95, 93 I5). Safe. -/
  | imageValueAbsent
  /-- The sequencer was to run a request that CHECK_REQUEST does not pass; no run from reset reaches it,
  since SUBMIT admits no such request (R18, R107). Safe. -/
  | uncheckedRequest
  /-- Stage 2 of a command without a data packet; no run from reset reaches it (R116). Safe. -/
  | stageWithoutData
  deriving DecidableEq, Repr

/-- Why a step is refused. -/
inductive Refusal where
  /-- An instruction that has no meaning yet; raised by `exec` only. -/
  | notModelled (mnemonic : String)
  /-- SUBMIT by a host with a request waiting, running or undelivered (R107, R168(b), 93 I3). Safe. -/
  | submitWhileOutstanding
  /-- Reset while a request is outstanding (R180, 93 I12). Safe. -/
  | resetWhileOutstanding
  /-- Reset with nothing outstanding, once the framer has left its reset state: a model applies reset only
  at launch (R180; log 21). Safe. -/
  | resetAfterLaunch
  deriving DecidableEq, Repr

/-- What a step answers. -/
abbrev StepResult := Host.Outcome State Fault Refusal

/-- The result fields' reset value (R31). -/
def Result.reset : Result where
  resp := none
  baseOk := false
  classOk := false
  kind := .noError
  errValue := 0
  reject := .noReject
  stage2 := false
  ovf := false

/-- The request field's reset value (R31). -/
def Request.reset (cfg : Config) : Request where
  code := 0
  param := 0
  data := none
  timeoutMs := cfg.defaultTimeoutMs
  host := none

/-- The framer after reset (R31, R180). -/
def Framer.reset (cfg : Config) : Framer where
  owner := none
  waiters := []
  phase := .idle
  stage := 0
  req := Request.reset cfg
  expLen := 0
  rxbuf := []
  tOrigin := 0
  nextPoll := 0
  result := Result.reset
  doneFlag := false
  mailbox := []
  devinfo := none
  capacity := cfg.capacity

/-- The channel at launch: closed and empty (log 15). -/
def Channel.launch : Channel where
  outbound := []
  inbound := []
  port := none
  txAnswer := .ok
  openAnswer := true
  keepsBytes := true

/-- The machine at launch under a configuration: the framer reset (R31), the channel closed and empty,
the time base at 0, no host active, no move listed. -/
def State.resetWith (cfg : Config) : State where
  toFramer := Framer.reset cfg
  toChannel := Channel.launch
  cfg := cfg
  now := 0
  clients := []
  taken := []
  reply := none
  moves := []
  freeMoves := 0
  seqSteps := 0

/-- The machine right after reset, in the default configuration. -/
def State.reset : State :=
  State.resetWith Config.default

/-- The framer reset (R180): every field of R13, and the time base, takes its value of R31, and the channel
and the device are untouched (R182; log 21). -/
def State.resetFramer (s : State) : State :=
  { s with toFramer := Framer.reset s.cfg, now := 0 }

end Sys2Proof.Machine

namespace Sys2Proof

/-- The free choice of the next move when the state lists none: any enabled agent may step next
(00_scope.md R5, 93 I7, I9, I10, I11; log 8). No body: nothing fixes its values. -/
opaque Config.freeMove : Nat → Machine.Move

/-- The free value a register shows where no rule gives it one: a result field while DONE = 0 (10_state.md
R31, 93 I4), RXLEN after a result with no response (R27); log 17. By number of sequencer steps taken and
register number. No body. -/
opaque Config.freeRead : Nat → Nat → Word32

end Sys2Proof
end

