-- ==== Sys2Proof/Machine/Flags.lean ====
section
/-!
DEFINITION. The response parser and classifier (42_response_parser.md R86 to R99), the flags they give,
and the register view that shows them (10_state.md R23 to R27). Every function is pure.
-/

namespace Sys2Proof.Machine

/-- `PARSE_DP(r)` of R88 for a non-empty region. -/
def parseDp (cfg : Config) (r : Bytes) : Option (Bytes × Bool) :=
  if cfg.dpOverhead ≤ r.length then
    match valid16 r 0 (r.length - 1) with
    | some ok => some (slice r 4 (r.length - 3), ok)
    | none => none
  else
    some ([], false)

/-- `PARSE(raw)` of R86 with the split of R87; `none` outside its precondition. -/
def parse (cfg : Config) (raw : Bytes) : Option Resp :=
  match i32le raw 4, u16le raw 8, valid16 raw 0 (cfg.hdrLen - 1) with
  | some param, some code, some hdrOk =>
    if raw.length ≤ cfg.hdrLen then
      some { raw, param, code, hdrOk, dp := none, dpOk := false, synth := false }
    else
      match parseDp cfg (raw.drop cfg.hdrLen) with
      | some (dp, dpOk) => some { raw, param, code, hdrOk, dp := some dp, dpOk, synth := false }
      | none => none
  | _, _, _ => none

/-- The data packet is absent or valid: the last term of `ck_ok` and `BASE_OK` (R90, R91). -/
def Resp.packetOk (r : Resp) : Bool :=
  r.dp.isNone || r.dpOk

/-- Overall checksum validity, `ck_ok` of R90. -/
def Resp.ckOk (r : Resp) : Bool :=
  r.hdrOk && r.packetOk

/-- `BASE_OK(resp)` of R91, the source's `is_successful`. -/
def baseOk (cfg : Config) (r : Resp) : Bool :=
  !r.synth && r.hdrOk && r.code == cfg.ack && r.packetOk

/-- The serial-number bytes of an Open data packet, `dp[8..23]` (R96). -/
def serialBytes (d : Bytes) : Bytes :=
  slice d 8 23

/-- The qualifier of the INIT class on the data field: 24 bytes, serial not all zero (R96). -/
def initQualifier (d : Bytes) : Bool :=
  d.length == 24 && (serialBytes d).any (· != 0)

/-- `CLASS_OK(resp, class)` of R95 and R96. -/
def classOk (cfg : Config) (r : Resp) (cls : RespClass) : Bool :=
  match cls with
  | .init =>
    match r.dp with
    | some d => baseOk cfg r && initQualifier d
    | none => false
  | .fastSearch => baseOk cfg r && r.param == cfg.fastSearchOk
  | .basic | .count | .level | .userId | .template | .image => baseOk cfg r

/-- `DECODE_INIT(d)` of R96; `none` when `d` is too short for the fields. -/
def decodeInit (d : Bytes) : Option DevInfo :=
  match u32le d 0, i32le d 4 with
  | some fw, some iso => some { fw, iso, serial := serialBytes d }
  | _, _ => none

/-- The error codes of R92. -/
inductive ErrorCode where
  | invalidChecksum
  | duplicateFingerprint (userId : Word32)
  | deviceCode (v : Word32)
  deriving DecidableEq, Repr

/-- `ERROR_CODE(resp)` of R92; the comparison is signed. -/
def errorCode (cfg : Config) (r : Resp) : ErrorCode :=
  if !r.ckOk then .invalidChecksum
  else if 0 ≤ r.param.toInt ∧ r.param.toInt < cfg.dupLimit then .duplicateFingerprint r.param
  else .deviceCode r.param

/-- `KIND(resp, class)` of R93: the kind and ERR_VALUE. -/
def kindOf (cfg : Config) (r : Resp) (cls : RespClass) : ErrKind × Word32 :=
  if r.synth then (.communication, r.param)
  else if classOk cfg r cls then (.noError, 0)
  else
    match errorCode cfg r with
    | .invalidChecksum => (.invalidChecksum, 0)
    | .duplicateFingerprint u => (.duplicate, u)
    | .deviceCode v => (.device, v)

/-- `VALUE(resp, class)` of R95; `none` for the IMAGE value of a response with no data packet, whose
reading is a fault. -/
def valueOf (cfg : Config) (r : Resp) (cls : RespClass) : Option Value :=
  match cls with
  | .basic | .fastSearch => some .noValue
  | .init =>
    match classOk cfg r .init, r.dp.bind decodeInit with
    | true, some d => some (.devInfo d)
    | _, _ => some .noValue
  | .count | .level => some (.int (if classOk cfg r cls then r.param else 0))
  | .userId => some (.int (if classOk cfg r cls then r.param else -1))
  | .template => some (.bytes (r.dp.getD []))
  | .image => r.dp.map .bytes

/-- `CLASS(c)`: the class column of 30_encoding.md R60, unless the configuration names `c` the
fast-search command (92 D33, log 5). -/
def classOf (cfg : Config) (c : Cmd) : RespClass :=
  if cfg.fastSearchCmd = some c then .fastSearch
  else
    match c with
    | .openCmd => .init
    | .getEnrollCount => .count
    | .getSecurityLevel => .level
    | .identify | .identifyTemplate | .identifyTemplate2 => .userId
    | .enroll1 | .enroll2 | .enroll3 | .makeTemplate | .getTemplate => .template
    | .getImage | .getRawImage => .image
    | .closeCmd | .changeBaudRate | .cmosLed | .enrollStart | .isPressFinger | .deleteId | .verify
    | .verifyTemplate | .captureFinger | .setTemplate | .setSecurityLevel | .enterStandbyMode => .basic

/-- `SYNTH()` of R99. -/
def synth (cfg : Config) : Resp where
  raw := []
  param := cfg.errCommErr
  code := cfg.nack
  hdrOk := true
  dp := none
  dpOk := false
  synth := true

/-- The result that FINISH builds from a response under a class (R117; `RESULT_OF` of
46_client_sequences.md R159). -/
def resultOf (cfg : Config) (r : Resp) (cls : RespClass) (stage2 ovf : Bool) : Result where
  resp := some r
  baseOk := baseOk cfg r
  classOk := classOk cfg r cls
  kind := (kindOf cfg r cls).1
  errValue := (kindOf cfg r cls).2
  reject := .noReject
  stage2 := stage2
  ovf := ovf

/-- The CONSTRUCTION result of a rejected request (R107). -/
def rejectedResult (reason : RejectReason) : Result where
  resp := none
  baseOk := false
  classOk := false
  kind := .construction
  errValue := 0
  reject := reason
  stage2 := false
  ovf := false

/-- The CANCELLED result of R118 and R119. -/
def cancelledResult (stage2 : Bool) : Result where
  resp := none
  baseOk := false
  classOk := false
  kind := .cancelled
  errValue := 0
  reject := .noReject
  stage2 := stage2
  ovf := false

/-- The phase codes of R16. -/
def Phase.code : Phase → Word32
  | .idle => 0
  | .send => 1
  | .flush => 2
  | .poll => 3
  | .check => 4
  | .wait => 5

/-- The KIND codes of R24. -/
def ErrKind.code : ErrKind → Word32
  | .noError => 0
  | .invalidChecksum => 1
  | .duplicate => 2
  | .device => 3
  | .communication => 4
  | .construction => 5
  | .cancelled => 6

/-- The REJECT codes of R24. -/
def rejectCode : RejectReason → Word32
  | .noReject => 0
  | .unknownCode => 1
  | .dataLength => 2
  | .dataMissing => 3
  | .dataUnexpected => 4

/-- Bit `k` of a register, set when `b`. -/
def flagBit (k : Nat) (b : Bool) : Word32 :=
  if b then BitVec.twoPow 32 k else 0

/-- A flag of the last response, 0 when there is none. -/
def respFlag (r : Result) (f : Resp → Bool) : Bool :=
  match r.resp with
  | some x => f x
  | none => false

/-- The bits of STATUS that describe `result`: 2 to 8, 10 and 15 (R23; bit 9 is reserved). -/
def statusResultMask : Word32 := 0x85FC

/-- STATUS bits 2 to 10 and 15 of a result (R23). -/
def statusOfResult (r : Result) : Word32 :=
  flagBit 2 r.baseOk ||| flagBit 3 r.classOk ||| flagBit 4 (respFlag r (·.hdrOk))
    ||| flagBit 5 (respFlag r (·.dp.isSome)) ||| flagBit 6 (respFlag r (·.dpOk))
    ||| flagBit 7 (respFlag r (·.synth)) ||| flagBit 8 (r.kind == .cancelled)
    ||| flagBit 10 r.stage2 ||| flagBit 15 r.ovf

/-- The free value register `n` shows where no rule gives it one: the fields of `result` while DONE = 0
(93 I4), and RXLEN after a result with no response (log 17). -/
def freeField (s : State) (n : Nat) : Word32 :=
  Config.freeRead s.seqSteps n

/-- STATUS, register 0 (R23). -/
def statusReg (s : State) : Word32 :=
  flagBit 0 s.owner.isSome ||| flagBit 1 s.doneFlag
    ||| (if s.doneFlag then statusOfResult s.result else freeField s 0 &&& statusResultMask)
    ||| flagBit 11 s.devinfo.isSome ||| s.phase.code <<< 12 ||| BitVec.ofNat 32 s.stage.val <<< 16

/-- A free kind among those ERROR can read: CONSTRUCTION and code 7 never appear (R24). -/
def freeKind (v : Word32) : ErrKind :=
  match v.toNat % 6 with
  | 0 => .noError
  | 1 => .invalidChecksum
  | 2 => .duplicate
  | 3 => .device
  | 4 => .communication
  | _ => .cancelled

/-- ERROR, register 9 (R24): KIND in bits 2:0, REJECT in bits 6:4 when KIND = CONSTRUCTION. -/
def errorReg (s : State) : Word32 :=
  if s.doneFlag then
    s.result.kind.code |||
      (if s.result.kind = .construction then rejectCode s.result.reject <<< 4 else 0)
  else
    (freeKind (freeField s 9)).code

/-- RXLEN, register 6 (R27). R27 gives it no value when DONE = 1 and the last result has no response (a
cancelled transaction): it reads a free value there, as while DONE = 0 with the lock free (log 17). A length
of 2^32 or more, which only a larger `RX_BUF_MAX` allows, reads modulo 2^32 (log 36). -/
def rxlenReg (s : State) : Word32 :=
  if s.owner.isSome then BitVec.ofNat 32 s.rxbuf.length
  else
    match s.doneFlag, s.result.resp with
    | true, some r => BitVec.ofNat 32 r.raw.length
    | _, _ => freeField s 6

/-- Word `k` of the serial number, little-endian (R25, R37); 0 when there is no device information. -/
def serialReg (s : State) (k : Nat) : Word32 :=
  match s.devinfo with
  | some d => (u32le d.serial (4 * k)).getD 0
  | none => 0

/-- The register view of R23 to R27 and R67: the 32-bit value of register `n`. -/
def readRegister (s : State) (n : Nat) : Word32 :=
  match n with
  | 0 => statusReg s
  | 1 => s.req.code.setWidth 32
  | 2 => s.req.param
  | 3 => s.req.timeoutMs
  | 4 =>
    match s.req.data with
    | some d => BitVec.ofNat 32 d.length
    | none => 0
  | 5 => s.expLen
  | 6 => rxlenReg s
  | 7 =>
    if s.doneFlag then
      match s.result.resp with
      | some r => r.param
      | none => 0
    else freeField s 7
  | 8 =>
    if s.doneFlag then
      match s.result.resp with
      | some r => r.code.setWidth 32
      | none => 0
    else ((freeField s 8).setWidth 16).setWidth 32
  | 9 => errorReg s
  | 10 => if s.doneFlag then s.result.errValue else freeField s 10
  | 11 =>
    match s.devinfo with
    | some d => d.fw
    | none => 0
  | 12 =>
    match s.devinfo with
    | some d => d.iso
    | none => 0
  | 13 => serialReg s 0
  | 14 => serialReg s 1
  | 15 => serialReg s 2
  | 16 => serialReg s 3
  | 17 => s.capacity
  | 18 =>
    match s.owner with
    | some h => BitVec.ofNat 32 (h + 1)
    | none => 0
  | _ => 0

end Sys2Proof.Machine
end

