-- ==== Sys2Proof/Machine/HostMap.lean ====
section
/-!
DEFINITION. Finite maps from hosts to values, as lists of pairs in one canonical form: keys strictly
rising. `waiters` (10_state.md R15), `mailbox` (R28), `clients` and `taken` are such maps, so that equal
maps are equal data. Laws/HostMap.lean proves that every operation keeps the form.
-/

namespace Sys2Proof.Machine

/-- The canonical form: keys strictly rising. -/
def mapWf {α : Type} : List (HostId × α) → Bool
  | [] => true
  | [_] => true
  | (h, _) :: (h', v) :: m => decide (h < h') && mapWf ((h', v) :: m)

/-- The value of host `h`, if any. -/
def mapGet {α : Type} (m : List (HostId × α)) (h : HostId) : Option α :=
  match m with
  | [] => none
  | (h', v) :: m' => if h = h' then some v else mapGet m' h

/-- The map with host `h` at value `v`. -/
def mapSet {α : Type} (m : List (HostId × α)) (h : HostId) (v : α) : List (HostId × α) :=
  match m with
  | [] => [(h, v)]
  | (h', v') :: m' =>
    if h < h' then (h, v) :: (h', v') :: m'
    else if h = h' then (h, v) :: m'
    else (h', v') :: mapSet m' h v

/-- The map without host `h`. -/
def mapErase {α : Type} (m : List (HostId × α)) (h : HostId) : List (HostId × α) :=
  m.filter fun p => p.1 != h

end Sys2Proof.Machine
end

