-- ==== Sys2Proof/Machine/Ops.lean ====
section
/-!
DEFINITION. The named operations over the channel, the mailboxes and the lock, and the one shared
operation that ends a transaction, `finish` (44_transaction_sequencer.md R117). The framer has no trap
entry and no return from one (60_exceptions.md R171, R172): every failure of a running transaction is
`finish` with the synthesized response, `finishSynth`.
-/

namespace Sys2Proof.Machine

/-- The channel's answer to `TxWrite` now: a write to a closed channel fails and takes no byte (92 D36);
otherwise the channel's own answer (R110, R125). -/
def txWriteAnswer (s : State) : TxAnswer :=
  match s.port with
  | none => .fail 0
  | some _ => s.txAnswer

/-- Bytes handed to the channel (R10, 20_memory.md R32(a)). -/
def State.sent (s : State) (b : Bytes) : State :=
  { s with outbound := s.outbound ++ b }

/-- One more sequencer step taken (log 17). -/
def State.counted (s : State) : State :=
  { s with seqSteps := s.seqSteps + 1 }

/-- `mailbox(h) <- r` (R28). -/
def State.deliver (s : State) (h : HostId) (r : Result) : State :=
  { s with mailbox := mapSet s.mailbox h r }

/-- `mailbox(owner) <- r`. -/
def State.deliverOwner (s : State) (r : Result) : State :=
  match s.owner with
  | some h => s.deliver h r
  | none => s

/-- The last assignments of FINISH and of a cancellation: `owner <- none; phase <- IDLE; stage <- 0;
DONE <- 1` (R117, R119). -/
def State.release (s : State) : State :=
  { s with owner := none, phase := .idle, stage := 0, doneFlag := true }

/-- The device information after FINISH of command `c` with response `r`: set by a class-successful Open
(42_response_parser.md R98), cleared by Close whatever its outcome (45_commands.md R130), and unchanged
by every other transaction. -/
def devinfoAfter (cfg : Config) (c : Cmd) (r : Resp) (old : Option DevInfo) : Option DevInfo :=
  match c with
  | .openCmd =>
    if classOk cfg r .init then
      match r.dp with
      | some d => decodeInit d
      | none => old
    else old
  | .closeCmd => none
  | _ => old

/-- `FINISH(resp, ovf)` of R117 for command `c`. -/
def finish (c : Cmd) (r : Resp) (ovf : Bool) (s : State) : State :=
  let res := resultOf s.cfg r (classOf s.cfg c) (s.stage == 2) ovf
  (({ s with result := res, devinfo := devinfoAfter s.cfg c r s.devinfo }).deliverOwner res).release

/-- FINISH with the synthesized CommErr response (42_response_parser.md R99): the exit for a time-out, a
write or flush failure, and a receive overflow. -/
def finishSynth (c : Cmd) (ovf : Bool) (s : State) : State :=
  finish c (synth s.cfg) ovf s

/-- Host `h` has a request waiting, running or undelivered (R107). -/
def outstanding (s : State) (h : HostId) : Bool :=
  (mapGet s.waiters h).isSome || s.owner == some h || (mapGet s.mailbox h).isSome

/-- The request a waiter holds becomes `req` (R18, R109): what the grant latches. -/
def State.latch (s : State) (h : HostId) (r : Request) : State :=
  { s with waiters := mapErase s.waiters h, req := r }

end Sys2Proof.Machine
end

