-- ==== Sys2Proof/Machine/Environment.lean ====
section
/-!
DEFINITION. The environment's moves: the channel, the device and the time base (00_scope.md R5,
44_transaction_sequencer.md R125), the channel's open and close (46_client_sequences.md R154), and reset
(70_reset_and_hazards.md R180 to R182).
-/

namespace Sys2Proof.Machine

/-- The device delivers bytes into the channel (R125): any bytes, at any time. -/
def deviceOp (b : Bytes) (s : State) : State :=
  { s with inbound := s.inbound ++ b }

/-- The time base advances by one millisecond (R125). -/
def tickOp (s : State) : State :=
  { s with now := s.now + 1 }

/-- The channel chooses its answers (R125; log 14, log 16). -/
def channelOp (a : TxAnswer) (openOk keeps : Bool) (s : State) : State :=
  { s with txAnswer := a, openAnswer := openOk, keepsBytes := keeps }

/-- The bytes the channel holds after an open or a close (log 16). -/
def heldBytes (s : State) : Bytes :=
  if s.keepsBytes then s.inbound else []

/-- `PORT_OPEN b` (R154): it may fail, and then the port stays as it was (log 16). -/
def portOpenOp (baud : Word32) (s : State) : State :=
  if s.openAnswer then { s with port := some baud, inbound := heldBytes s } else s

/-- `PORT_CLOSE` (R154). -/
def portCloseOp (s : State) : State :=
  { s with port := none, inbound := heldBytes s }

/-- The machine is at launch as far as the table of R31 shows it: every field of R13 and the time base have
their values (log 21). -/
def atLaunch (s : State) : Bool :=
  s.toFramer == Framer.reset s.cfg && s.now == 0

/-- Reset (R180): applied only at launch, and refused while any request is waiting, running or undelivered
(93 I12) as well as at any later time (log 21). -/
def resetOp (s : State) : StepResult :=
  if s.waiters ≠ [] ∨ s.owner ≠ none ∨ s.mailbox ≠ [] then .refused .resetWhileOutstanding
  else if atLaunch s then .next s.resetFramer
  else .refused .resetAfterLaunch

end Sys2Proof.Machine
end

