-- ==== Sys2Proof/Machine/HostPort.lean ====
section
/-!
DEFINITION. The host-port operations (30_encoding.md R66): SUBMIT (44_transaction_sequencer.md R107, R108),
CANCEL (R118 to R120), TAKE (R121), RDREG (R67), and reading VALUE of a delivered result under a class
(42_response_parser.md R95, R97).
-/

namespace Sys2Proof.Machine

/-- SUBMIT (R107): refused while the host has a request outstanding; a request that CHECK_REQUEST rejects
fills the host's mailbox with a CONSTRUCTION result and does nothing else; any other joins the waiters. -/
def submitOp (h : HostId) (code : Word16) (param : Word32) (data : Option Bytes) (timeoutMs : Word32)
    (s : State) : StepResult :=
  if outstanding s h then .refused .submitWhileOutstanding
  else
    match checkRequest s.cfg code data with
    | .noReject =>
      .next { s with
        mailbox := mapErase s.mailbox h
        waiters := mapSet s.waiters h { code, param, data, timeoutMs, host := some h } }
    | reason => .next (s.deliver h (rejectedResult reason))

/-- CANCEL (R118 to R120): a running transaction is abandoned in one step, a waiting request is removed,
and a host with neither is not affected. -/
def cancelOp (h : HostId) (s : State) : State :=
  if s.owner = some h ∧ s.phase ≠ .idle then
    let res := cancelledResult (s.stage == 2)
    ({ s with result := res, rxbuf := [] }.deliver h res).release
  else if (mapGet s.waiters h).isSome then
    { s with waiters := mapErase s.waiters h }.deliver h (cancelledResult false)
  else s

/-- TAKE (R121): the host's mailbox is returned and emptied; the host waits while it is empty. -/
def takeOp (h : HostId) (s : State) : State :=
  match mapGet s.mailbox h with
  | some r =>
    { s with
      mailbox := mapErase s.mailbox h
      taken := mapSet s.taken h r
      reply := some (.result h r) }
  | none => s

/-- RDREG (R67): only the returned value is new. -/
def readRegOp (h : HostId) (n : Nat) (s : State) : State :=
  { s with reply := some (.register h n (readRegister s n)) }

/-- A host reads VALUE of the response of the result it took last, under class `cls` (R95, R97). The IMAGE
value of a response with no data packet faults (R168(c)); with no response at hand there is nothing to
read (log 25). -/
def readValueOp (h : HostId) (cls : RespClass) (s : State) : StepResult :=
  match (mapGet s.taken h).bind (·.resp) with
  | some r =>
    match valueOf s.cfg r cls with
    | some v => .next { s with reply := some (.value h v) }
    | none => .fault .imageValueAbsent
  | none => .next s

end Sys2Proof.Machine
end

