-- ==== Sys2Proof/Machine/Client.lean ====
section
/-!
DEFINITION. The client sequences (46_client_sequences.md R154 to R166), which host agents run over the
framer. A host's task is its next atomic step; a sequence is written as what follows each step. The text
form of the device information (42_response_parser.md R96, 92 D35) stands here too: it is host software.
-/

namespace Sys2Proof.Machine

/-- The signed range test of R155 and R156. -/
def inRange (v lo hi : Int) : Bool :=
  decide (lo ≤ v) && decide (v ≤ hi)

/-- The argument checks of a single command: user ids (R155) and security levels (R156). -/
def argumentOk (cfg : Config) (capacity : Word32) (c : Cmd) (param : Word32) : Bool :=
  match c with
  | .enrollStart | .enroll1 | .enroll2 | .enroll3 => inRange param.toInt (-1) capacity.toInt
  | .deleteId | .verify | .verifyTemplate | .getTemplate | .setTemplate =>
    inRange param.toInt 0 capacity.toInt
  | .setSecurityLevel => inRange param.toInt cfg.secLevelMin.toInt cfg.secLevelMax.toInt
  | _ => true

/-- The Result of a client operation whose arguments fail their checks (60_exceptions.md R167): kind
CONSTRUCTION, no response. That REJECT is 0 is log 35. -/
def argumentResult : Result :=
  rejectedResult .noReject

/-- The command of an enrollment iteration (R157, R160). -/
def enrollCommand (iteration : Int) : Option Cmd :=
  if iteration = 1 then some .enroll1
  else if iteration = 2 then some .enroll2
  else if iteration = 3 then some .enroll3
  else none

/-- A TXN of command `c` without data (R69, R154). -/
def txn (c : Cmd) (param : Word32) (timeoutMs : Word32) (k : Cont) : Task :=
  .submit c param none timeoutMs k

/-- One query of WAIT_FOR_FINGER (R158). -/
def fingerQuery (cfg : Config) (f : Finger) : Task :=
  txn .isPressFinger 0 cfg.fingerQueryTimeoutMs (.fingerReply f)

/-- WAIT_FOR_FINGER begins at time `now` (R158). -/
def beginWait (cfg : Config) (now : Nat) (action : FingerAction) (timeoutMs : Nat) (after : AfterWait) :
    Task :=
  fingerQuery cfg { action, timeoutMs, t0 := now, after }

/-- `FNP()` of R159: the response of a capture whose finger was not placed. -/
def fnp (cfg : Config) : Resp where
  raw := []
  param := cfg.errFingerNotPressed
  code := cfg.nack
  hdrOk := true
  dp := none
  dpOk := false
  synth := false

/-- What follows CAPTURE_WITH_PATTERN's result `r` (R159, R160). -/
def afterCapture (cfg : Config) (r : Result) : AfterCapture → Task
  | .ret => .finished (.result r)
  | .enroll iteration userId =>
    if r.classOk then txn iteration userId cfg.enrollTimeoutMs .enrollReply
    else .finished (.result r)

/-- What follows WAIT_FOR_FINGER's answer `b` (R158, R159). -/
def afterWait (cfg : Config) (b : Bool) : AfterWait → Task
  | .ret => .finished (.bool b)
  | .capture cls k =>
    if b then txn .captureFinger cfg.captureParam cfg.defaultTimeoutMs (.captureReply cls k)
    else afterCapture cfg (resultOf cfg (fnp cfg) cls false false) k

/-- The sensor state a successful IsPressFinger reply reports (R158, 92 D24). -/
def pressed (cfg : Config) (r : Result) : Bool :=
  match r.resp with
  | some x => x.param == cfg.pressedValue
  | none => false

/-- The decision of WAIT_FOR_FINGER after a query (R158): an unsuccessful query ends the wait, then the
match is tested, then the time-out. -/
def fingerDecision (cfg : Config) (now : Nat) (f : Finger) (r : Result) : Task :=
  if !r.baseOk then afterWait cfg false f.after
  else if (match f.action with
      | .place => pressed cfg r
      | .remove => !pressed cfg r) then afterWait cfg true f.after
  else if f.t0 + f.timeoutMs ≤ now then afterWait cfg false f.after
  else .delay (now + cfg.pollMs) (.fingerAgain f)

/-- The capture response `r` under class `cls` (R159): reclassified without parsing it again. A cancelled
capture has no response and is returned as it is (log 24). -/
def reclassified (cfg : Config) (r : Result) (cls : RespClass) : Result :=
  match r.resp with
  | some x => resultOf cfg x cls r.stage2 r.ovf
  | none => r

/-- The rest of SESSION_OPEN once the port stands at the operating rate (R162, R164). -/
def openExchange (cfg : Config) : Task :=
  txn .openCmd 1 (clientTimeout cfg .openCmd) .openReply

/-- CAPTURE_WITH_PATTERN (R159) begins. -/
def beginCapture (cfg : Config) (now : Nat) (cls : RespClass) (timeoutMs : Nat) (k : AfterCapture) :
    Task :=
  beginWait cfg now .place timeoutMs (.capture cls k)

/-- How a client operation begins (R154 to R165). -/
def beginOp (cfg : Config) (capacity : Word32) (now : Nat) : ClientOp → Task
  | .command c param data timeoutMs =>
    if argumentOk cfg capacity c param then
      .submit c param data (timeoutMs.getD (clientTimeout cfg c)) .command
    else .finished (.result argumentResult)
  | .waitForFinger action timeoutMs => beginWait cfg now action timeoutMs .ret
  | .captureWithPattern cls timeoutMs => beginCapture cfg now cls timeoutMs .ret
  | .enroll iteration userId =>
    match enrollCommand iteration with
    | none => .finished (.result argumentResult)
    | some c =>
      if !inRange userId.toInt (-1) capacity.toInt then .finished (.result argumentResult)
      else if iteration = 1 then
        txn .enrollStart userId (clientTimeout cfg .enrollStart) (.enrollStartReply c userId)
      else beginCapture cfg now .template cfg.fingerPlaceWaitMs (.enroll c userId)
  | .sessionOpen => .portOpen cfg.probeBaud .probeOpened
  | .sessionClose => txn .closeCmd 0 (clientTimeout cfg .closeCmd) .closeReply

/-- What follows the result `r` that a TAKE delivered. -/
def afterResult (cfg : Config) (now : Nat) (r : Result) : Cont → Task
  | .fingerReply f => fingerDecision cfg now f r
  | .captureReply cls k => afterCapture cfg (reclassified cfg r cls) k
  | .enrollStartReply c userId =>
    if r.baseOk then beginCapture cfg now .template cfg.fingerPlaceWaitMs (.enroll c userId)
    else .finished (.result r)
  | .baudReply =>
    if r.baseOk || r.kind == .communication then .portClose .switchClosed else .finished .fatal
  | .openReply =>
    if r.classOk then txn .cmosLed cfg.ledOnParam (clientTimeout cfg .cmosLed) .ledReply
    else .finished .fatal
  | .ledReply => .finished .ok
  | .closeReply => .portClose .sessionClosed
  | .command | .enrollReply | .fingerAgain _ | .probeOpened | .probeSettled | .switchClosed
  | .switchSettled | .targetOpened | .targetSettled | .sessionClosed | .sessionSettled =>
    .finished (.result r)

/-- What follows a DELAY that has passed. -/
def afterDelay (cfg : Config) : Cont → Task
  | .fingerAgain f => fingerQuery cfg f
  | .probeSettled =>
    if cfg.probeBaud = cfg.targetBaud then openExchange cfg
    else txn .changeBaudRate cfg.targetBaud (clientTimeout cfg .changeBaudRate) .baudReply
  | .switchSettled => .portOpen cfg.targetBaud .targetOpened
  | .targetSettled => openExchange cfg
  | .sessionSettled | .command | .fingerReply _ | .captureReply _ _ | .enrollStartReply _ _
  | .enrollReply | .probeOpened | .baudReply | .switchClosed | .targetOpened | .openReply | .ledReply
  | .closeReply | .sessionClosed => .finished .ok

/-- What follows a PORT_OPEN or PORT_CLOSE that succeeded: the settle delay (R162, R165, R187). -/
def afterPort (cfg : Config) (now : Nat) (k : Cont) : Task :=
  .delay (now + cfg.settleMs)
    (match k with
    | .probeOpened => .probeSettled
    | .switchClosed => .switchSettled
    | .targetOpened => .targetSettled
    | .sessionClosed => .sessionSettled
    | .command | .fingerReply _ | .fingerAgain _ | .captureReply _ _ | .enrollStartReply _ _
    | .enrollReply | .probeSettled | .baudReply | .switchSettled | .targetSettled | .openReply
    | .ledReply | .closeReply | .sessionSettled => .sessionSettled)

/-- Host `h`'s task is now `t`. -/
def State.setTask (s : State) (h : HostId) (t : Task) : State :=
  { s with clients := mapSet s.clients h t }

/-- The host has no client task, or a finished one. -/
def clientIdle (s : State) (h : HostId) : Bool :=
  match mapGet s.clients h with
  | none => true
  | some (.finished _) => true
  | some _ => false

/-- A host starts a client operation, unless one is still running (log 23). -/
def startOp (h : HostId) (op : ClientOp) (s : State) : State :=
  if clientIdle s h then s.setTask h (beginOp s.cfg s.capacity s.now op) else s

/-- The next atomic step of host `h`'s client task: a SUBMIT (R107), a TAKE (R121), a delay's end, a
PORT_OPEN or a PORT_CLOSE (R154). A step that is not enabled waits. -/
def clientOp (h : HostId) (s : State) : StepResult :=
  match mapGet s.clients h with
  | none => .next s
  | some (.finished _) => .next s
  | some (.submit c param data timeoutMs k) =>
    submitOp h (s.cfg.codeOf c) param data timeoutMs (s.setTask h (.take k))
  | some (.take k) =>
    match mapGet s.mailbox h with
    | some r => .next ((takeOp h s).setTask h (afterResult s.cfg s.now r k))
    | none => .next s
  | some (.delay t k) =>
    if t ≤ s.now then .next (s.setTask h (afterDelay s.cfg k)) else .next s
  | some (.portOpen baud k) =>
    if s.openAnswer then .next ((portOpenOp baud s).setTask h (afterPort s.cfg s.now k))
    else .next (s.setTask h (.finished .fatal))
  | some (.portClose k) => .next ((portCloseOp s).setTask h (afterPort s.cfg s.now k))

/-- A hexadecimal digit in the configured case (92 D35). -/
def hexDigit (hc : HexCase) (n : Nat) : Char :=
  if n < 10 then Char.ofNat (48 + n)
  else
    match hc with
    | .upper => Char.ofNat (55 + n)
    | .lower => Char.ofNat (87 + n)

/-- The two hexadecimal digits of a byte. -/
def hexByte (hc : HexCase) (b : Byte) : List Char :=
  [hexDigit hc (b.toNat / 16), hexDigit hc (b.toNat % 16)]

/-- The firmware text of R96: the eight hexadecimal digits of `fw`, most significant byte first. -/
def fwText (hc : HexCase) (d : DevInfo) : List Char :=
  (le32 d.fw).reverse.flatMap (hexByte hc)

/-- The serial text of R96: two groups of eight bytes in hexadecimal, joined by `-`. -/
def serialText (hc : HexCase) (d : DevInfo) : List Char :=
  (d.serial.take 8).flatMap (hexByte hc) ++ '-' :: (d.serial.drop 8).flatMap (hexByte hc)

end Sys2Proof.Machine
end

