-- ==== Sys2Proof/Machine/Sequencer.lean ====
section
/-!
DEFINITION. The sequencer's steps (44_transaction_sequencer.md R109 to R116), each for a command `c` with
its operands, and `runCommand`, the step of the current phase. Every instruction's meaning is one call of
`runCommand` (R128). A step whose guard does not hold waits: it leaves the state as it is.
-/

namespace Sys2Proof.Machine

/-- GRANT of the latched request (R109): it takes the lock, predicts the reply length and starts stage 1.
It waits while the lock is held. -/
def grantStep (c : Cmd) (param : Word32) (s : State) : StepResult :=
  match s.owner, s.req.host with
  | none, some h =>
    .next { s with
      owner := some h
      expLen := predict s.cfg c param
      stage := 1
      doneFlag := false
      inbound := if s.cfg.rxDrainAtStart then [] else s.inbound
      phase := .send
      seqSteps := s.seqSteps + 1 }
  | _, _ => .next s

/-- The frame of the current stage (R110): the command header in stage 1, the data packet in stage 2. -/
def stageFrame (c : Cmd) (param : Word32) (data : Option Bytes) (s : State) : Option Bytes :=
  if s.stage = 1 then some (buildCmd s.cfg (s.cfg.codeOf c) param)
  else
    match data with
    | some d => some (buildDp s.cfg d)
    | none => none

/-- SEND (R110): the frame goes to the channel; a failed write ends the transaction. -/
def sendStep (c : Cmd) (param : Word32) (data : Option Bytes) (s : State) : StepResult :=
  match stageFrame c param data s with
  | none => .fault .stageWithoutData
  | some frame =>
    match txWriteAnswer s with
    | .pending => .next s
    | .ok => .next ({ s with rxbuf := [], phase := .flush }.sent frame).counted
    | .fail k => .next (finishSynth c false ({ s with rxbuf := [] }.sent (frame.take k)).counted)

/-- FLUSH (R111): it waits until the channel's flush completes, and starts the stage's timers. -/
def flushStep (c : Cmd) (s : State) : StepResult :=
  match s.txAnswer with
  | .pending => .next s
  | .ok => .next { s with tOrigin := s.now, nextPoll := s.now, phase := .poll }.counted
  | .fail _ => .next (finishSynth c false s.counted)

/-- POLL (R112): one read attempt takes every byte the channel holds; more bytes than RXBUF can hold end
the transaction (R115). -/
def pollStep (c : Cmd) (s : State) : StepResult :=
  if s.cfg.rxBufMax < s.rxbuf.length + s.inbound.length then
    .next (finishSynth c true { s with inbound := [] }.counted)
  else
    .next { s with rxbuf := s.rxbuf ++ s.inbound, inbound := [], phase := .check }.counted

/-- STAGE_END (R116): a base-successful stage 1 of a data-packet command starts stage 2; anything else
ends the transaction with the parsed response. -/
def stageEnd (c : Cmd) (data : Option Bytes) (s : State) : StepResult :=
  match parse s.cfg s.rxbuf with
  | none => .fault .fieldRange
  | some r =>
    if s.stage = 1 ∧ data.isSome = true ∧ baseOk s.cfg r = true then
      .next { s with stage := 2, phase := .send }.counted
    else
      .next (finish c r false s.counted)

/-- CHECK (R113): completion is tested first, then the time-out; otherwise the next attempt is scheduled. For
a time-out that is no multiple of POLL_MS this makes one attempt more than R124 counts (log 37). -/
def checkStep (c : Cmd) (data : Option Bytes) (s : State) : StepResult :=
  if s.expLen.toNat ≤ s.rxbuf.length ∧ s.inbound = [] then stageEnd c data s
  else if s.tOrigin + s.req.timeoutMs.toNat ≤ s.now then .next (finishSynth c false s.counted)
  else .next { s with nextPoll := s.nextPoll + s.cfg.pollMs, phase := .wait }.counted

/-- WAIT (R114): the next read attempt is due. -/
def waitStep (s : State) : StepResult :=
  if s.nextPoll ≤ s.now then .next { s with phase := .poll }.counted
  else .next s

/-- The sequencer's next step of the transaction of command `c` with parameter `param` and attached data
`data` (R128): the step of the current phase. -/
def runCommand (c : Cmd) (param : Word32) (data : Option Bytes) (s : State) : StepResult :=
  match s.phase with
  | .idle => grantStep c param s
  | .send => sendStep c param data s
  | .flush => flushStep c s
  | .poll => pollStep c s
  | .check => checkStep c data s
  | .wait => waitStep s

end Sys2Proof.Machine
end

