-- ==== Sys2Proof/Machine/Enroll.lean ====
section
/-!
DEFINITION. The meanings of the enrollment commands (45_commands.md): GetEnrollCount, EnrollStart, Enroll1 to Enroll3, DeleteId.
Each is one atomic step of the command's transaction (R128).
-/

namespace Sys2Proof.Machine

/-- GetEnrollCount: reply 12 bytes, class COUNT (R133). -/
def execGetEnrollCount (param : Word32) (s : State) : StepResult :=
  runCommand .getEnrollCount param none s

/-- EnrollStart: reply 12 bytes, class BASIC (R134). -/
def execEnrollStart (param : Word32) (s : State) : StepResult :=
  runCommand .enrollStart param none s

/-- Enroll1: reply 12 bytes, class TEMPLATE (R135). -/
def execEnroll1 (param : Word32) (s : State) : StepResult :=
  runCommand .enroll1 param none s

/-- Enroll2: reply 12 bytes, class TEMPLATE (R136). -/
def execEnroll2 (param : Word32) (s : State) : StepResult :=
  runCommand .enroll2 param none s

/-- Enroll3: reply 516 bytes with parameter -1 and 12 otherwise, class TEMPLATE (R137). -/
def execEnroll3 (param : Word32) (s : State) : StepResult :=
  runCommand .enroll3 param none s

/-- DeleteId: reply 12 bytes, class BASIC (R139). -/
def execDeleteId (param : Word32) (s : State) : StepResult :=
  runCommand .deleteId param none s

end Sys2Proof.Machine
end

