-- ==== Sys2Proof/Machine/Identify.lean ====
section
/-!
DEFINITION. The meanings of the finger query and the matching commands (45_commands.md): IsPressFinger, Verify, Identify, VerifyTemplate, IdentifyTemplate, IdentifyTemplate2.
Each is one atomic step of the command's transaction (R128).
-/

namespace Sys2Proof.Machine

/-- IsPressFinger: reply 12 bytes, class BASIC; the pressed state is the response parameter (R158) (R138). -/
def execIsPressFinger (param : Word32) (s : State) : StepResult :=
  runCommand .isPressFinger param none s

/-- Verify: reply 12 bytes, class BASIC (R140). -/
def execVerify (param : Word32) (s : State) : StepResult :=
  runCommand .verify param none s

/-- Identify: reply 12 bytes, class USERID (R141). -/
def execIdentify (param : Word32) (s : State) : StepResult :=
  runCommand .identify param none s

/-- VerifyTemplate: two stages of 12-byte replies, 498 bytes of data, class BASIC (R142). -/
def execVerifyTemplate (param : Word32) (data : Bytes) (s : State) : StepResult :=
  runCommand .verifyTemplate param (some data) s

/-- IdentifyTemplate: two stages of 12-byte replies, 498 bytes of data, class USERID (R143). -/
def execIdentifyTemplate (param : Word32) (data : Bytes) (s : State) : StepResult :=
  runCommand .identifyTemplate param (some data) s

/-- IdentifyTemplate2: two stages of 12-byte replies, 500 bytes of data, class USERID (R144). -/
def execIdentifyTemplate2 (param : Word32) (data : Bytes) (s : State) : StepResult :=
  runCommand .identifyTemplate2 param (some data) s

end Sys2Proof.Machine
end

