-- ==== Sys2Proof/Machine/Session.lean ====
section
/-!
DEFINITION. The meanings of the session and sensor-setting commands (45_commands.md): Open, Close, ChangeBaudRate, CmosLed, SetSecurityLevel, GetSecurityLevel, EnterStandbyMode.
Each is one atomic step of the command's transaction (R128).
-/

namespace Sys2Proof.Machine

/-- Open: a probe with parameter 0 (reply 12 bytes) or the ordinary open (reply 42 bytes); class INIT; a class-successful FINISH fills the device information (R98) (R129). -/
def execOpenCmd (param : Word32) (s : State) : StepResult :=
  runCommand .openCmd param none s

/-- Close: reply 12 bytes, class BASIC; FINISH clears the device information whatever the outcome (R130). -/
def execCloseCmd (param : Word32) (s : State) : StepResult :=
  runCommand .closeCmd param none s

/-- ChangeBaudRate: reply 12 bytes, class BASIC; the channel's own rate is the client layer's business (R163) (R131). -/
def execChangeBaudRate (param : Word32) (s : State) : StepResult :=
  runCommand .changeBaudRate param none s

/-- CmosLed: reply 12 bytes, class BASIC (R132). -/
def execCmosLed (param : Word32) (s : State) : StepResult :=
  runCommand .cmosLed param none s

/-- SetSecurityLevel: reply 12 bytes, class BASIC (R151). -/
def execSetSecurityLevel (param : Word32) (s : State) : StepResult :=
  runCommand .setSecurityLevel param none s

/-- GetSecurityLevel: reply 12 bytes, class LEVEL (R152). -/
def execGetSecurityLevel (param : Word32) (s : State) : StepResult :=
  runCommand .getSecurityLevel param none s

/-- EnterStandbyMode: reply 12 bytes, class BASIC; the framer itself has no power state (R179) (R153). -/
def execEnterStandbyMode (param : Word32) (s : State) : StepResult :=
  runCommand .enterStandbyMode param none s

end Sys2Proof.Machine
end

