-- ==== Sys2Proof/Machine/Template.lean ====
section
/-!
DEFINITION. The meanings of the capture, image and template commands (45_commands.md): CaptureFinger, MakeTemplate, GetImage, GetRawImage, GetTemplate, SetTemplate.
Each is one atomic step of the command's transaction (R128).
-/

namespace Sys2Proof.Machine

/-- CaptureFinger: reply 12 bytes, class BASIC (R145). -/
def execCaptureFinger (param : Word32) (s : State) : StepResult :=
  runCommand .captureFinger param none s

/-- MakeTemplate: reply 516 bytes, class TEMPLATE (R146). -/
def execMakeTemplate (param : Word32) (s : State) : StepResult :=
  runCommand .makeTemplate param none s

/-- GetImage: reply 52134 bytes, class IMAGE (R147). -/
def execGetImage (param : Word32) (s : State) : StepResult :=
  runCommand .getImage param none s

/-- GetRawImage: reply 19218 bytes, class IMAGE (R148). -/
def execGetRawImage (param : Word32) (s : State) : StepResult :=
  runCommand .getRawImage param none s

/-- GetTemplate: reply 516 bytes, class TEMPLATE (R149). -/
def execGetTemplate (param : Word32) (s : State) : StepResult :=
  runCommand .getTemplate param none s

/-- SetTemplate: two stages of 12-byte replies, 498 bytes of data, class BASIC (R150). -/
def execSetTemplate (param : Word32) (data : Bytes) (s : State) : StepResult :=
  runCommand .setTemplate param (some data) s

end Sys2Proof.Machine
end

