-- ==== Sys2Proof/Machine/Dispatch.lean ====
section
/-!
DEFINITION. The meaning of each instruction: one arm per row of spec/opcode_table.json.
-/

namespace Sys2Proof.Machine

/-- One atomic step of the transaction of command `i` (45_commands.md R128). -/
def exec (i : Instr) (s : State) : Host.Outcome State Fault Refusal :=
  match i with
  | .openCmd p => Sys2Proof.Machine.execOpenCmd p s
  | .closeCmd p => Sys2Proof.Machine.execCloseCmd p s
  | .changeBaudRate p => Sys2Proof.Machine.execChangeBaudRate p s
  | .cmosLed p => Sys2Proof.Machine.execCmosLed p s
  | .getEnrollCount p => Sys2Proof.Machine.execGetEnrollCount p s
  | .enrollStart p => Sys2Proof.Machine.execEnrollStart p s
  | .enroll1 p => Sys2Proof.Machine.execEnroll1 p s
  | .enroll2 p => Sys2Proof.Machine.execEnroll2 p s
  | .enroll3 p => Sys2Proof.Machine.execEnroll3 p s
  | .isPressFinger p => Sys2Proof.Machine.execIsPressFinger p s
  | .deleteId p => Sys2Proof.Machine.execDeleteId p s
  | .verify p => Sys2Proof.Machine.execVerify p s
  | .identify p => Sys2Proof.Machine.execIdentify p s
  | .verifyTemplate p d => Sys2Proof.Machine.execVerifyTemplate p d s
  | .identifyTemplate p d => Sys2Proof.Machine.execIdentifyTemplate p d s
  | .captureFinger p => Sys2Proof.Machine.execCaptureFinger p s
  | .makeTemplate p => Sys2Proof.Machine.execMakeTemplate p s
  | .getImage p => Sys2Proof.Machine.execGetImage p s
  | .getRawImage p => Sys2Proof.Machine.execGetRawImage p s
  | .getTemplate p => Sys2Proof.Machine.execGetTemplate p s
  | .setTemplate p d => Sys2Proof.Machine.execSetTemplate p d s
  | .setSecurityLevel p => Sys2Proof.Machine.execSetSecurityLevel p s
  | .getSecurityLevel p => Sys2Proof.Machine.execGetSecurityLevel p s
  | .identifyTemplate2 p d => Sys2Proof.Machine.execIdentifyTemplate2 p d s
  | .enterStandbyMode p => Sys2Proof.Machine.execEnterStandbyMode p s

end Sys2Proof.Machine
end

