-- ==== Sys2Proof/Machine/Moves.lean ====
section
/-!
DEFINITION. What one move of one agent does (00_scope.md R5). The sequencer's moves decode the request
they run and execute it: `grantMove` is the fetch, which picks a waiter and latches its request.
-/

namespace Sys2Proof.Machine

/-- The instruction of a request (R18, R108). -/
def instrOf (cfg : Config) (r : Request) : Except RejectReason Instr :=
  decodeRequest cfg r.code r.param r.data

/-- The sequencer executes the latched request `req`: it decodes it and takes its transaction's next
step. -/
def runReq (s : State) : StepResult :=
  match instrOf s.cfg s.req with
  | .ok i => exec i s
  | .error _ => .fault .uncheckedRequest

/-- GRANT with waiter `h` picked (R109): enabled when the lock is free and `h` waits. -/
def grantMove (h : HostId) (s : State) : StepResult :=
  match s.owner, s.phase, mapGet s.waiters h with
  | none, .idle, some r => runReq (s.latch h r)
  | _, _, _ => .next s

/-- The sequencer's step in its current phase (R110 to R114); there is none in IDLE. -/
def seqMove (s : State) : StepResult :=
  match s.phase with
  | .idle => .next s
  | .send | .flush | .poll | .check | .wait => runReq s

/-- One move of one agent. -/
def perform (m : Move) (s : State) : StepResult :=
  match m with
  | .submit h code param data timeoutMs => submitOp h code param data timeoutMs s
  | .cancel h => .next (cancelOp h s)
  | .take h => .next (takeOp h s)
  | .readReg h n => .next (readRegOp h n s)
  | .readValue h cls => readValueOp h cls s
  | .portOpen h baud =>
    .next { portOpenOp baud s with reply := some (.opened h s.openAnswer) }
  | .portClose _ => .next (portCloseOp s)
  | .start h op => .next (startOp h op s)
  | .client h => clientOp h s
  | .grant h => grantMove h s
  | .seq => seqMove s
  | .channel a openOk keeps => .next (channelOp a openOk keeps s)
  | .device b => .next (deviceOp b s)
  | .tick => .next (tickOp s)
  | .reset => resetOp s

/-- The next move and the state with it taken off: the first of `moves`, or, when none is listed, the free
value `Config.freeMove` (log 8). -/
def nextMove (s : State) : Move × State :=
  match s.moves with
  | m :: ms => (m, { s with moves := ms })
  | [] => (Config.freeMove s.freeMoves, { s with freeMoves := s.freeMoves + 1 })

/-- The request at the port that stands for a word of the opcode table: code `w`, parameter 0, data of
zeros where the command needs data, the client time-out of the command, host 0 (log 11). -/
def tableRequest (cfg : Config) (w : Word16) : Request where
  code := w
  param := 0
  data := zeroData cfg w
  timeoutMs :=
    match cmdOfCode cfg w with
    | some c => clientTimeout cfg c
    | none => cfg.defaultTimeoutMs
  host := some 0

/-- The state whose very next step grants and starts request `r` of host 0: the lock is free, the host
waits with `r`, and the next move is its GRANT (log 11). -/
def withRequest (r : Request) (s : State) : State :=
  { s with
    owner := none
    phase := .idle
    stage := 0
    waiters := mapSet s.waiters 0 r
    mailbox := mapErase s.mailbox 0
    moves := .grant 0 :: s.moves }

end Sys2Proof.Machine
end

