-- ==== Sys2Proof/Machine/Step.lean ====
section
/-!
DEFINITION. The step: one move of one agent, the next one listed or a free one (00_scope.md R5). And
`withFetchWord`, the state whose next step runs the instruction of an opcode-table word.
-/

namespace Sys2Proof.Machine

/-- One step of the machine. -/
def step (s : State) : Host.Outcome State Fault Refusal :=
  perform (nextMove s).1 (nextMove s).2

/-- `s` with the instruction of the table word `w` waiting to be granted to host 0, and its GRANT as the
next move (log 11). -/
def State.withFetchWord (s : State) (nbits w : Nat) : State :=
  withRequest (tableRequest s.cfg (BitVec.ofNat 16 (w % 2 ^ nbits))) s

end Sys2Proof.Machine
end

