-- ==== Sys2Proof/Safety.lean ====
section
/-!
DEFINITION. The terms claims are stated in: the invariant of the machine, the state FINISH leaves
(44_transaction_sequencer.md R117, written out field by field), the poll grid (R113), the eager schedule
(95_test_vectors.md, "Scheduling convention"), and the runs and their fairness (R125) that liveness claims are
about.
-/

namespace Sys2Proof.Machine

/-- A request of host `h` that CHECK_REQUEST passes (10_state.md R18). -/
def requestOk (cfg : Config) (h : HostId) (r : Request) : Bool :=
  r.host == some h && checkRequest cfg r.code r.data == .noReject

/-- `exp_len` is the prediction of the running request (R19). -/
def expLenOk (s : State) : Bool :=
  match cmdOfCode s.cfg s.req.code with
  | some c => s.expLen == predict s.cfg c s.req.param
  | none => false

/-- The lock, the phase and the stage agree (R14, R16, R17), and a running transaction has a checked
request of its owner, its prediction, data in stage 2, DONE = 0 and an empty mailbox. -/
def runningOk (s : State) : Bool :=
  match s.owner with
  | none => s.phase == .idle && s.stage == 0
  | some h =>
    s.phase != .idle && s.stage != 0 && requestOk s.cfg h s.req && expLenOk s
      && (s.stage == 1 || s.req.data.isSome) && !s.doneFlag && (mapGet s.mailbox h).isNone

/-- Every waiter has a checked request, an empty mailbox, and is not the owner (R15, R107). -/
def waitersOk (s : State) : Bool :=
  s.waiters.all fun p =>
    requestOk s.cfg p.1 p.2 && (mapGet s.mailbox p.1).isNone && s.owner != some p.1

/-- The four host maps are in canonical form. -/
def mapsOk (s : State) : Bool :=
  mapWf s.waiters && mapWf s.mailbox && mapWf s.clients && mapWf s.taken

/-- The last result is never a rejection (R24), its class success implies base success (R95), and while
DONE = 1 its kind is NONE exactly on class success (R93). -/
def resultOk (s : State) : Bool :=
  s.result.kind != .construction && s.result.reject == .noReject
    && (!s.result.classOk || s.result.baseOk)
    && (!s.doneFlag || ((s.result.kind == .noError) == s.result.classOk))

/-- The serial number has 16 bytes (R25, R96). -/
def devinfoOk (s : State) : Bool :=
  match s.devinfo with
  | none => true
  | some d => d.serial.length == 16

/-- The invariant of the machine: it holds at reset and every step keeps it. -/
structure Inv (s : State) : Prop where
  config : s.cfg.wf = true
  maps : mapsOk s = true
  running : runningOk s = true
  waiters : waitersOk s = true
  result : resultOk s = true
  devinfo : devinfoOk s = true
  rxbuf : s.rxbuf.length ≤ s.cfg.rxBufMax
  capacity : s.capacity = s.cfg.capacity

/-- Read attempts fall due at `t_origin + k * POLL_MS` (R113, R124), and `t_origin` is not in the future:
a second invariant, of the phases that read. -/
def pollGrid (s : State) : Prop :=
  s.phase = .poll ∨ s.phase = .check ∨ s.phase = .wait →
    s.tOrigin ≤ s.now ∧ ∃ k, s.nextPoll = s.tOrigin + k * s.cfg.pollMs

/-- The state after FINISH of command `c`, run by host `h`, with response `r` (R117), field by field. -/
def afterFinish (c : Cmd) (h : HostId) (r : Resp) (ovf : Bool) (s : State) : State :=
  let res : Result :=
    { resp := some r
      baseOk := baseOk s.cfg r
      classOk := classOk s.cfg r (classOf s.cfg c)
      kind := (kindOf s.cfg r (classOf s.cfg c)).1
      errValue := (kindOf s.cfg r (classOf s.cfg c)).2
      reject := .noReject
      stage2 := decide (s.stage = 2)
      ovf := ovf }
  { s with
    result := res
    devinfo :=
      if c = .openCmd then
        (if classOk s.cfg r .init = true then r.dp.bind decodeInit else s.devinfo)
      else if c = .closeCmd then none
      else s.devinfo
    mailbox := mapSet s.mailbox h res
    owner := none
    phase := .idle
    stage := 0
    doneFlag := true
    seqSteps := s.seqSteps + 1 }

/-- The sequencer's step in the current phase is enabled (R110 to R114). -/
def seqEnabled (s : State) : Bool :=
  match s.phase with
  | .idle => false
  | .send => s.port.isNone || s.txAnswer != .pending
  | .flush => s.txAnswer != .pending
  | .poll => true
  | .check => true
  | .wait => decide (s.nextPoll ≤ s.now)

/-- The eager schedule with hosts, channel and device at rest: an enabled sequencer step is taken before
the time base advances. -/
def eagerMove (s : State) : Move :=
  if seqEnabled s then .seq else .tick

/-- `n` steps of the eager schedule. -/
def eagerRun : Nat → State → StepResult
  | 0, s => .next s
  | n + 1, s =>
    match perform (eagerMove s) s with
    | .next t => eagerRun n t
    | .fault e => .fault e
    | .refused e => .refused e

/-- The sequencer's GRANT is enabled: the lock is free and a host waits (R109). -/
def grantEnabled (s : State) : Bool :=
  s.owner.isNone && s.phase == .idle && !s.waiters.isEmpty

/-- A step of the sequencer is enabled: GRANT, or the step of the current phase. -/
def sequencerEnabled (s : State) : Bool :=
  grantEnabled s || seqEnabled s

/-- Move `m` is an enabled step of the sequencer. -/
def sequencerStep (m : Move) (s : State) : Bool :=
  match m with
  | .seq => seqEnabled s
  | .grant h => grantEnabled s && (mapGet s.waiters h).isSome
  | _ => false

/-- The states `r` are a run in which move `m n` is the one taken in state `r n`, from whatever list or
counter of moves it came. A run of `step` is such a run (Laws/Run.lean), and so is one under any schedule. -/
def IsRun (m : Nat → Move) (r : Nat → State) : Prop :=
  ∀ n, ∃ ms k, perform (m n) { r n with moves := ms, freeMoves := k } = .next (r (n + 1))

/-- Weak fairness of the time base, which is always enabled, and of the sequencer (R125): neither stays
enabled for ever without stepping (log 28). -/
structure WeaklyFair (m : Nat → Move) (r : Nat → State) : Prop where
  timeBase : ∀ n, ∃ k, n ≤ k ∧ m k = .tick
  sequencer : ∀ n, (∀ k, n ≤ k → sequencerEnabled (r k) = true) →
    ∃ k, n ≤ k ∧ sequencerStep (m k) (r k) = true

/-- Fairness of the choice GRANT makes (R109, 20_memory.md R47): no host waits through infinitely many grants
(log 28). -/
def FairGrant (m : Nat → Move) (r : Nat → State) : Prop :=
  (∀ n, ∃ k g, n ≤ k ∧ m k = .grant g ∧ (r k).owner = none ∧ (r (k + 1)).owner = some g) →
    ∀ h n, ∃ k, n ≤ k ∧ mapGet (r k).waiters h = none

/-- The transaction that host `h` runs at `n` hangs: it holds the lock for ever, and from some point on one
write or one flush never completes (93 I8, R190). -/
def Hangs (r : Nat → State) (n : Nat) (h : HostId) : Prop :=
  (∀ k, n ≤ k → (r k).owner = some h) ∧
    ∃ j p, (p = Phase.send ∨ p = Phase.flush) ∧ ∀ k, j ≤ k → (r k).phase = p

end Sys2Proof.Machine
end

