-- ==== Sys2Proof/Certificates/Slice0/Obligations.lean ====
section
/-!
DEFINITION. The statements for the provers. Each docstring names the rule of spec/ its statement
formalises; where a statement rests on a choice of the model, it names the log entry. A next state is
given as the whole state, by record update, so that a statement says what is unchanged as well.
-/

open Sys2Proof Sys2Proof.Machine

/-! ### Codecs, checksum, frames -/

/-- 40_checksum_codec.md R73, and the laws that the spec derives from it in R75: the bytes of the
little-endian encoders, and that decoding inverts them. -/
def Obligations.CodecRoundTrip : Prop :=
  (∀ v : Word16, le16 v = [BitVec.ofNat 8 v.toNat, BitVec.ofNat 8 (v.toNat / 2 ^ 8)]) ∧
  (∀ v : Word32, le32 v = [BitVec.ofNat 8 v.toNat, BitVec.ofNat 8 (v.toNat / 2 ^ 8),
    BitVec.ofNat 8 (v.toNat / 2 ^ 16), BitVec.ofNat 8 (v.toNat / 2 ^ 24)]) ∧
  (∀ v : Word16, u16le (le16 v) 0 = some v) ∧
  (∀ v : Word32, i32le (le32 v) 0 = some v) ∧
  (∀ v : Word32, u16le (le32 v) 0 = some (BitVec.ofNat 16 (v.toNat % 2 ^ 16)))

/-- 40_checksum_codec.md R70: CHK16 is the sum of the bytes of the inclusive range modulo 65536, and has no
value outside its precondition (the caller's fault, R168(a)). -/
def Obligations.ChecksumIsByteSum : Prop :=
  ∀ (b : Bytes) (s e : Int),
    (¬(0 ≤ s ∧ s ≤ e ∧ e < b.length) → chk16 b s e = none) ∧
    (0 ≤ s ∧ s ≤ e ∧ e < b.length →
      chk16 b s e = some (BitVec.ofNat 16
        (((List.range (e.toNat + 1 - s.toNat)).map fun k => (b.getD (s.toNat + k) 0).toNat).sum)))

/-- 40_checksum_codec.md R76 (derived there from R70, R72, R75; the short ranges are the spec's decision
D45): the checksum round trip, for buffers of three or more bytes, for one and two bytes, and for a buffer
followed by its own checksum. -/
def Obligations.ChecksumRoundTrip : Prop :=
  (∀ b : Bytes, 3 ≤ b.length →
    (valid16 b 0 (b.length - 1) = some true ↔
      u16le b (b.length - 2) = chk16 b 0 (b.length - 3))) ∧
  (∀ b : Bytes, b.length = 1 ∨ b.length = 2 → valid16 b 0 (b.length - 1) = some false) ∧
  (∀ p : Bytes, 1 ≤ p.length →
    ∃ c, chk16 p 0 (p.length - 1) = some c ∧
      valid16 (p ++ le16 c) 0 (p.length + 1) = some true)

/-- 40_checksum_codec.md R72 and 95_test_vectors.md L1.4: a change of one covered byte is detected. -/
def Obligations.CoveredByteChangeDetected : Prop :=
  ∀ (b : Bytes) (k : Nat) (x : Byte), 3 ≤ b.length → k < b.length - 2 → b[k]? ≠ some x →
    valid16 b 0 (b.length - 1) = some true →
    valid16 (b.set k x) 0 (b.length - 1) = some false

/-- 41_frame_serializer.md R77, R79 and R84: the twelve bytes of a command header frame, with the checksum as
R78 expands it, and the bytes of a command data sub-frame. -/
def Obligations.FrameLayouts : Prop :=
  (∀ (cfg : Config) (code : Word16) (p : Word32), cfg.wf = true →
    ∃ c : Word16,
      c = BitVec.ofNat 16 (0x100 + ((le32 p).map BitVec.toNat).sum + code.toNat % 2 ^ 8
        + code.toNat / 2 ^ 8) ∧
      buildCmd cfg code p = [0x55, 0xAA, 0x01, 0x00] ++ le32 p ++ le16 code ++ le16 c ∧
      chk16 (buildCmd cfg code p) 0 9 = some c ∧
      (buildCmd cfg code p).length = 12) ∧
  ∀ (cfg : Config) (d : Bytes), cfg.wf = true →
    ∃ c : Word16,
      chk16 ([0x5A, 0xA5, 0x01, 0x00] ++ d) 0 (d.length + 3) = some c ∧
      buildDp cfg d = [0x5A, 0xA5, 0x01, 0x00] ++ d ++ le16 c ∧
      (buildDp cfg d).length = d.length + 6

/-! ### Encoding, request checks, prediction -/

/-- Decoding the bytes of a well-formed instruction gives it back (30_encoding.md, 1 and 3): all 25
commands, every parameter, every data of the required length, any well-formed configuration. -/
def Obligations.DecodeOfEncode : Prop :=
  ∀ (cfg : Config) (i : Instr), cfg.wf = true → i.wellFormed = true →
    decode cfg (encode cfg i) = .ok i

/-- Frames the spec writes out (45_commands.md, the examples of R129, R131, R137, R139, R145, R152, and
R150's two stages with zero data) decode to the commands they stand for. -/
def Obligations.SpecFramesDecode : Prop :=
  decode Config.default [0x55, 0xAA, 0x01, 0x00, 0x01, 0x00, 0x00, 0x00, 0x01, 0x00, 0x02, 0x01]
    = .ok (.openCmd 1) ∧
  decode Config.default [0x55, 0xAA, 0x01, 0x00, 0x00, 0xC2, 0x01, 0x00, 0x04, 0x00, 0xC7, 0x01]
    = .ok (.changeBaudRate 115200) ∧
  decode Config.default [0x55, 0xAA, 0x01, 0x00, 0xFF, 0xFF, 0xFF, 0xFF, 0x25, 0x00, 0x21, 0x05]
    = .ok (.enroll3 (-1)) ∧
  decode Config.default [0x55, 0xAA, 0x01, 0x00, 0x05, 0x00, 0x00, 0x00, 0x40, 0x00, 0x45, 0x01]
    = .ok (.deleteId 5) ∧
  decode Config.default [0x55, 0xAA, 0x01, 0x00, 0x01, 0x00, 0x00, 0x00, 0x60, 0x00, 0x61, 0x01]
    = .ok (.captureFinger 1) ∧
  decode Config.default [0x55, 0xAA, 0x01, 0x00, 0x00, 0x00, 0x00, 0x00, 0xF1, 0x00, 0xF1, 0x01]
    = .ok (.getSecurityLevel 0) ∧
  decode Config.default
    ([0x55, 0xAA, 0x01, 0x00, 0x05, 0x00, 0x00, 0x00, 0x71, 0x00, 0x76, 0x01] ++
      ([0x5A, 0xA5, 0x01, 0x00] ++ List.replicate 498 0x00 ++ [0x00, 0x01]))
    = .ok (.setTemplate 5 (List.replicate 498 0x00))

/-- The request decoder and the wire decoder agree: a request that CHECK_REQUEST passes, written as the
frames of its stages, decodes to the same instruction (30_encoding.md R51, R52; 44 R108). -/
def Obligations.WireAndRequestDecodersAgree : Prop :=
  ∀ (cfg : Config) (code : Word16) (p : Word32) (data : Option Bytes) (i : Instr), cfg.wf = true →
    decodeRequest cfg code p data = .ok i →
    i.wellFormed = true ∧ cfg.codeOf i.cmd = code ∧ i.param = p ∧ i.data = data ∧
      decode cfg (buildCmd cfg code p ++ match data with
        | some d => buildDp cfg d
        | none => []) = .ok i

/-- 41_frame_serializer.md R80, R82, R83: the attached-data lengths, and the order of the construction
checks (the spec's decision D7); the first that fails gives the reason. -/
def Obligations.ConstructionCheckOrder : Prop :=
  (∀ c n, dpOutLen c = some n ↔
    (c = .verifyTemplate ∧ n = 498) ∨ (c = .identifyTemplate ∧ n = 498) ∨
    (c = .identifyTemplate2 ∧ n = 500) ∨ (c = .setTemplate ∧ n = 498)) ∧
  ∀ (cfg : Config) (code : Word16) (data : Option Bytes), cfg.wf = true →
    ((∀ c, cfg.codeOf c ≠ code) → checkRequest cfg code data = .unknownCode) ∧
    ∀ c, cfg.codeOf c = code →
      (dpOutLen c ≠ none → data = none → checkRequest cfg code data = .dataMissing) ∧
      (dpOutLen c = none → data ≠ none → checkRequest cfg code data = .dataUnexpected) ∧
      (dpOutLen c = none → data = none → checkRequest cfg code data = .noReject) ∧
      (∀ n d, dpOutLen c = some n → data = some d →
        checkRequest cfg code data = if d.length = n then .noReject else .dataLength)

/-- 43_length_prediction.md R100 to R103: every prediction. -/
def Obligations.PredictedLengths : Prop :=
  ∀ (cfg : Config) (c : Cmd) (p : Word32), cfg.wf = true →
    (predict cfg c p).toNat =
      match c with
      | .openCmd => if p = 0 then 12 else 42
      | .enroll3 => if p = -1 then 516 else 12
      | .makeTemplate => 516
      | .getTemplate => 516
      | .getImage => 52134
      | .getRawImage => 19218
      | _ => 12

/-! ### Parsing and classification -/

/-- 42_response_parser.md R86, R87, R88: what PARSE answers on a completed read (a remainder of 1 to 5 bytes
is the spec's decision D14). -/
def Obligations.ParsedFields : Prop :=
  ∀ (cfg : Config) (raw : Bytes), cfg.wf = true → 12 ≤ raw.length →
    ∃ r, parse cfg raw = some r ∧ r.raw = raw ∧ r.synth = false ∧
      i32le raw 4 = some r.param ∧ u16le raw 8 = some r.code ∧ valid16 raw 0 11 = some r.hdrOk ∧
      (raw.length = 12 → r.dp = none ∧ r.dpOk = false) ∧
      (12 < raw.length → raw.length < 18 → r.dp = some [] ∧ r.dpOk = false) ∧
      (18 ≤ raw.length → r.dp = some (slice raw 16 (raw.length - 3)) ∧
        valid16 (raw.drop 12) 0 (raw.length - 13) = some r.dpOk)

/-- A reply made of the frames of 30_encoding.md R51 and R52 parses back to its fields (42 R86 to R88). -/
def Obligations.ReplyFramesParseBack : Prop :=
  ∀ (cfg : Config) (code : Word16) (p : Word32), cfg.wf = true →
    parse cfg (buildCmd cfg code p) =
      some { raw := buildCmd cfg code p, param := p, code := code, hdrOk := true, dp := none,
             dpOk := false, synth := false } ∧
    ∀ d : Bytes, parse cfg (buildCmd cfg code p ++ buildDp cfg d) =
      some { raw := buildCmd cfg code p ++ buildDp cfg d, param := p, code := code, hdrOk := true,
             dp := some d, dpOk := true, synth := false }

/-- 42_response_parser.md R89 (the spec's decision D15): the start code and device id of a received header,
and of a received data packet, count only through the checksum. -/
def Obligations.StartCodesNotCompared : Prop :=
  ∀ (cfg : Config) (a b : Bytes), cfg.wf = true → a.length = 4 → b.length = 4 →
    sum16 a = sum16 b →
    (∀ y : Bytes, 8 ≤ y.length →
      parse cfg (a ++ y) = (parse cfg (b ++ y)).map fun r => { r with raw := a ++ y }) ∧
    (∀ x y : Bytes, x.length = 12 →
      parse cfg (x ++ a ++ y) = (parse cfg (x ++ b ++ y)).map fun r => { r with raw := x ++ a ++ y })

/-- 42_response_parser.md R90, R91: checksum validity, base success, and its independence of `param`. -/
def Obligations.BaseSuccess : Prop :=
  ∀ (cfg : Config) (r : Resp),
    (r.ckOk = true ↔ r.hdrOk = true ∧ (r.dp = none ∨ r.dpOk = true)) ∧
    (baseOk cfg r = true ↔
      r.synth = false ∧ r.hdrOk = true ∧ r.code = cfg.ack ∧ (r.dp = none ∨ r.dpOk = true)) ∧
    ∀ p, baseOk cfg { r with param := p } = baseOk cfg r

/-- 42_response_parser.md R92, R93 and the priority derived in R94: the error code and the kinds (the kind
of the synthesized response is the spec's decision D17). -/
def Obligations.ErrorKindPriority : Prop :=
  ∀ (cfg : Config) (r : Resp) (cls : RespClass), cfg.wf = true →
    (r.ckOk = false → errorCode cfg r = .invalidChecksum) ∧
    (r.ckOk = true → 0 ≤ r.param.toInt → r.param.toInt < 0x1001 →
      errorCode cfg r = .duplicateFingerprint r.param) ∧
    (r.ckOk = true → r.param.toInt < 0 ∨ 0x1001 ≤ r.param.toInt →
      errorCode cfg r = .deviceCode r.param) ∧
    (r.synth = true → kindOf cfg r cls = (.communication, r.param)) ∧
    (r.synth = false → classOk cfg r cls = true → kindOf cfg r cls = (.noError, 0)) ∧
    (r.synth = false → classOk cfg r cls = false → r.ckOk = false →
      kindOf cfg r cls = (.invalidChecksum, 0)) ∧
    (r.synth = false → classOk cfg r cls = false → r.ckOk = true →
      0 ≤ r.param.toInt → r.param.toInt < 0x1001 → kindOf cfg r cls = (.duplicate, r.param)) ∧
    (r.synth = false → classOk cfg r cls = false → r.ckOk = true →
      r.param.toInt < 0 ∨ 0x1001 ≤ r.param.toInt → kindOf cfg r cls = (.device, r.param))

/-- 42_response_parser.md R95 with the class column of 30_encoding.md R60: the class of each command, the
success test and the value of each class but INIT (the sentinels are the spec's decision D18), and the fault
of reading an absent IMAGE value. -/
def Obligations.ClassSuccessAndValue : Prop :=
  (∀ (cfg : Config) (c : Cmd), cfg.fastSearchCmd = none →
    classOf cfg c =
      if c = .openCmd then .init
      else if c = .getEnrollCount then .count
      else if c = .getSecurityLevel then .level
      else if c = .identify ∨ c = .identifyTemplate ∨ c = .identifyTemplate2 then .userId
      else if c = .enroll1 ∨ c = .enroll2 ∨ c = .enroll3 ∨ c = .makeTemplate ∨ c = .getTemplate then
        .template
      else if c = .getImage ∨ c = .getRawImage then .image
      else .basic) ∧
  (∀ (cfg : Config) (c : Cmd), cfg.fastSearchCmd = some c → classOf cfg c = .fastSearch) ∧
  (∀ (cfg : Config) (r : Resp),
    (∀ cls, cls = .basic ∨ cls = .count ∨ cls = .level ∨ cls = .userId ∨ cls = .template ∨ cls = .image →
      classOk cfg r cls = baseOk cfg r) ∧
    (classOk cfg r .fastSearch = true ↔ baseOk cfg r = true ∧ r.param = cfg.fastSearchOk) ∧
    valueOf cfg r .basic = some .noValue ∧ valueOf cfg r .fastSearch = some .noValue ∧
    valueOf cfg r .count = some (.int (if baseOk cfg r = true then r.param else 0)) ∧
    valueOf cfg r .level = some (.int (if baseOk cfg r = true then r.param else 0)) ∧
    valueOf cfg r .userId = some (.int (if baseOk cfg r = true then r.param else -1)) ∧
    (∀ d, r.dp = some d → valueOf cfg r .template = some (.bytes d) ∧
      valueOf cfg r .image = some (.bytes d)) ∧
    (r.dp = none → valueOf cfg r .template = some (.bytes []))) ∧
  (∀ (s : State) (h : HostId) (res : Result) (r : Resp), mapGet s.taken h = some res →
    res.resp = some r → r.dp = none → perform (.readValue h .image) s = .fault .imageValueAbsent)

/-- 42_response_parser.md R96 (the offsets are the spec's decision D19): class success of an Open response,
and the decoded device information. -/
def Obligations.InitClassSuccess : Prop :=
  ∀ (cfg : Config) (r : Resp),
    (classOk cfg r .init = true ↔
      baseOk cfg r = true ∧ ∃ d, r.dp = some d ∧ d.length = 24 ∧
        ∃ k, 8 ≤ k ∧ k ≤ 23 ∧ ∃ x, d[k]? = some x ∧ x ≠ 0) ∧
    (∀ d : Bytes, d.length = 24 →
      ∃ v, decodeInit d = some v ∧ u32le d 0 = some v.fw ∧ i32le d 4 = some v.iso ∧
        v.serial = slice d 8 23 ∧ v.serial.length = 16) ∧
    (∀ d v, r.dp = some d → classOk cfg r .init = true → decodeInit d = some v →
      valueOf cfg r .init = some (.devInfo v)) ∧
    (classOk cfg r .init = false → valueOf cfg r .init = some .noValue)

/-- 42_response_parser.md R99 (the spec's decision D17): the synthesized response and how it classifies. -/
def Obligations.SynthesizedResponse : Prop :=
  ∀ cfg : Config,
    synth cfg = { raw := [], param := cfg.errCommErr, code := cfg.nack, hdrOk := true, dp := none,
                  dpOk := false, synth := true } ∧
    baseOk cfg (synth cfg) = false ∧
    (∀ cls, classOk cfg (synth cfg) cls = false ∧
      kindOf cfg (synth cfg) cls = (.communication, cfg.errCommErr)) ∧
    valueOf cfg (synth cfg) .count = some (.int 0) ∧ valueOf cfg (synth cfg) .level = some (.int 0) ∧
    valueOf cfg (synth cfg) .userId = some (.int (-1)) ∧
    valueOf cfg (synth cfg) .template = some (.bytes [])

/-! ### The meanings of the commands

`exec i s` is the next atomic step of the transaction of command `i` (log 10), so a command completes
phase by phase; the statements below say what each phase does, for every command it exists for. -/

/-- GRANT as the meaning of each of the 25 commands: it takes the free lock for the latched request's host,
predicts the reply length and starts stage 1 (44_transaction_sequencer.md R109; that the meaning starts at
the latched request is log 10). -/
def Obligations.CommandStarts : Prop :=
  ∀ (i : Instr) (s : State) (h : HostId), s.phase = .idle → s.owner = none → s.req.host = some h →
    exec i s = .next { s with
      owner := some h
      expLen := predict s.cfg i.cmd i.param
      stage := 1
      doneFlag := false
      inbound := if s.cfg.rxDrainAtStart = true then [] else s.inbound
      phase := .send
      seqSteps := s.seqSteps + 1 }

/-- 44_transaction_sequencer.md R109: with the lock free, the sequencer's GRANT may pick any waiting host;
it latches that host's request, predicts the reply length and starts stage 1. The drain option is the spec's
decision D12, the free choice of the waiter is the move's host (log 8). -/
def Obligations.GrantPicksWaiter : Prop :=
  ∀ (s : State) (h : HostId) (r : Request), Inv s → s.owner = none → mapGet s.waiters h = some r →
    ∃ c, s.cfg.codeOf c = r.code ∧ perform (.grant h) s = .next { s with
      waiters := mapErase s.waiters h
      owner := some h
      req := r
      expLen := predict s.cfg c r.param
      stage := 1
      doneFlag := false
      inbound := if s.cfg.rxDrainAtStart = true then [] else s.inbound
      phase := .send
      seqSteps := s.seqSteps + 1 }

/-- SEND in stage 1, for each of the 25 commands: the command's own header frame goes to the channel
(44_transaction_sequencer.md R110, 41 R77). -/
def Obligations.StageOneSendsHeader : Prop :=
  ∀ (i : Instr) (s : State), s.phase = .send → s.stage = 1 → s.port ≠ none → s.txAnswer = .ok →
    exec i s = .next { s with
      rxbuf := []
      outbound := s.outbound ++ buildCmd s.cfg (s.cfg.codeOf i.cmd) i.param
      phase := .flush
      seqSteps := s.seqSteps + 1 }

/-- 41_frame_serializer.md R85 (derived there from R116): stage 2 of VerifyTemplate, IdentifyTemplate,
IdentifyTemplate2 and SetTemplate (the commands with attached data) writes the data packet and not the
header again. -/
def Obligations.StageTwoSendsDataPacket : Prop :=
  ∀ (i : Instr) (d : Bytes) (s : State), i.data = some d → s.phase = .send → s.stage = 2 →
    s.port ≠ none → s.txAnswer = .ok →
    exec i s = .next { s with
      rxbuf := []
      outbound := s.outbound ++ buildDp s.cfg d
      phase := .flush
      seqSteps := s.seqSteps + 1 }

/-- A write that does not complete waits, and a write that fails, or meets a closed channel, ends the
transaction with the synthesized CommErr (44_transaction_sequencer.md R110, 92 D36). How many bytes a
failing write leaves sent is open: `k`, any number (log 14). -/
def Obligations.UnfinishedAndFailedWrites : Prop :=
  ∀ (i : Instr) (s : State) (h : HostId) (frame : Bytes), s.phase = .send → s.owner = some h →
    (s.stage = 1 ∧ frame = buildCmd s.cfg (s.cfg.codeOf i.cmd) i.param ∨
      s.stage = 2 ∧ ∃ d, i.data = some d ∧ frame = buildDp s.cfg d) →
    (s.port ≠ none → s.txAnswer = .pending → exec i s = .next s) ∧
    (s.port = none → exec i s =
      .next (afterFinish i.cmd h (synth s.cfg) false { s with rxbuf := [] })) ∧
    (∀ k, s.port ≠ none → s.txAnswer = .fail k → exec i s =
      .next (afterFinish i.cmd h (synth s.cfg) false
        { s with rxbuf := [], outbound := s.outbound ++ frame.take k }))

/-- 44_transaction_sequencer.md R111: FLUSH starts both timers when the flush completes, ends the
transaction when it fails, and waits until then (where the timers start is the spec's decision D43); for
each of the 25 commands. -/
def Obligations.FlushStartsTimers : Prop :=
  ∀ (i : Instr) (s : State) (h : HostId), s.phase = .flush → s.owner = some h →
    (s.txAnswer = .ok → exec i s = .next { s with
      tOrigin := s.now
      nextPoll := s.now
      phase := .poll
      seqSteps := s.seqSteps + 1 }) ∧
    (∀ k, s.txAnswer = .fail k → exec i s = .next (afterFinish i.cmd h (synth s.cfg) false s)) ∧
    (s.txAnswer = .pending → exec i s = .next s)

/-- 44_transaction_sequencer.md R112 and R115: a read attempt takes every byte the channel holds, and more
than RX_BUF_MAX bytes end the stage, discarding the bytes of this attempt (the spec's decision D13); for
each of the 25 commands. -/
def Obligations.PollTakesHeldBytes : Prop :=
  ∀ (i : Instr) (s : State) (h : HostId), s.phase = .poll → s.owner = some h →
    (s.rxbuf.length + s.inbound.length ≤ s.cfg.rxBufMax → exec i s = .next { s with
      rxbuf := s.rxbuf ++ s.inbound
      inbound := []
      phase := .check
      seqSteps := s.seqSteps + 1 }) ∧
    (s.cfg.rxBufMax < s.rxbuf.length + s.inbound.length → exec i s =
      .next (afterFinish i.cmd h (synth s.cfg) true { s with inbound := [] }))

/-- CHECK of an incomplete reply (44_transaction_sequencer.md R113): the transaction times out with the
synthesized CommErr, or the next attempt is due POLL_MS later (the spec's decision D9); for each of the 25
commands. -/
def Obligations.IncompleteReplyTimesOutOrWaits : Prop :=
  ∀ (i : Instr) (s : State) (h : HostId), s.phase = .check → s.owner = some h →
    s.rxbuf.length < s.expLen.toNat ∨ s.inbound ≠ [] →
    (s.tOrigin + s.req.timeoutMs.toNat ≤ s.now →
      exec i s = .next (afterFinish i.cmd h (synth s.cfg) false s)) ∧
    (s.now < s.tOrigin + s.req.timeoutMs.toNat → exec i s = .next { s with
      nextPoll := s.nextPoll + s.cfg.pollMs
      phase := .wait
      seqSteps := s.seqSteps + 1 })

/-- 44_transaction_sequencer.md R114: WAIT ends when the next attempt is due; for each of the 25 commands.
That the step before that time is a next state, the state unchanged, is the model's choice (log 9). -/
def Obligations.WaitEndsWhenDue : Prop :=
  ∀ (i : Instr) (s : State), s.phase = .wait →
    (s.nextPoll ≤ s.now → exec i s = .next { s with phase := .poll, seqSteps := s.seqSteps + 1 }) ∧
    (s.now < s.nextPoll → exec i s = .next s)

/-- 44_transaction_sequencer.md R117 for the 21 commands without attached data (Open, Close, ChangeBaudRate,
CmosLed, GetEnrollCount, EnrollStart, Enroll1, Enroll2, Enroll3, IsPressFinger, DeleteId, Verify, Identify,
CaptureFinger, MakeTemplate, GetImage, GetRawImage, GetTemplate, SetSecurityLevel, GetSecurityLevel,
EnterStandbyMode): at a CHECK with the predicted bytes received and none waiting, the parsed response is the
result, classified under the command's own class, in the owner's mailbox, with the device information
updated and the lock released. A reply complete at the time-out instant completes, as R113 says (the spec's
decision D10; 93 I25, log 33). -/
def Obligations.SingleStageReplyFinishes : Prop :=
  ∀ (i : Instr) (s : State) (h : HostId) (r : Resp), i.data = none → s.phase = .check →
    s.owner = some h → s.expLen.toNat ≤ s.rxbuf.length → s.inbound = [] →
    parse s.cfg s.rxbuf = some r →
    exec i s = .next (afterFinish i.cmd h r false s)

/-- 44_transaction_sequencer.md R116, first branch: a base-successful stage 1 of VerifyTemplate,
IdentifyTemplate, IdentifyTemplate2 or SetTemplate starts stage 2, with the same prediction and time-out. -/
def Obligations.SuccessfulStageOneStartsStageTwo : Prop :=
  ∀ (i : Instr) (d : Bytes) (s : State) (r : Resp), i.data = some d → s.phase = .check →
    s.stage = 1 → s.expLen.toNat ≤ s.rxbuf.length → s.inbound = [] →
    parse s.cfg s.rxbuf = some r → baseOk s.cfg r = true →
    exec i s = .next { s with stage := 2, phase := .send, seqSteps := s.seqSteps + 1 }

/-- 44_transaction_sequencer.md R116, second branch, and R117: an unsuccessful stage 1, or any complete
stage 2, of VerifyTemplate, IdentifyTemplate, IdentifyTemplate2 or SetTemplate ends the transaction with its
parsed response. -/
def Obligations.TwoStageFinalReplyFinishes : Prop :=
  ∀ (i : Instr) (d : Bytes) (s : State) (h : HostId) (r : Resp), i.data = some d → s.phase = .check →
    s.owner = some h → s.expLen.toNat ≤ s.rxbuf.length → s.inbound = [] →
    parse s.cfg s.rxbuf = some r → s.stage = 2 ∨ baseOk s.cfg r = false →
    exec i s = .next (afterFinish i.cmd h r false s)

/-- 42_response_parser.md R98 and 45_commands.md R130: the step of Open that releases the lock sets the
device information on class success and leaves it otherwise, and the step of Close that releases the lock
clears it whatever the outcome. -/
def Obligations.OpenSetsCloseClearsDeviceInfo : Prop :=
  ∀ (p : Word32) (s t : State), s.owner ≠ none → t.owner = none →
    (exec (.openCmd p) s = .next t →
      ∃ r, t.result.resp = some r ∧
        (classOk s.cfg r .init = true → ∃ d, r.dp = some d ∧ t.devinfo = decodeInit d ∧ t.devinfo ≠ none) ∧
        (classOk s.cfg r .init = false → t.devinfo = s.devinfo)) ∧
    (exec (.closeCmd p) s = .next t → t.devinfo = none)

/-- What a step of any of the 25 commands leaves unchanged. Only the owner's mailbox can change, and only
with the lock's release, together with the result; the outbound stream only grows, by bytes of the stage's
own frame, and only in SEND; the inbound stream only empties, in POLL or by the drain option at GRANT
(20_memory.md R33, R41; 44 R109 to R117). -/
def Obligations.ExecFrame : Prop :=
  ∀ (i : Instr) (s t : State), exec i s = .next t →
    t.cfg = s.cfg ∧ t.waiters = s.waiters ∧ t.req = s.req ∧ t.capacity = s.capacity ∧ t.now = s.now ∧
    t.port = s.port ∧ t.txAnswer = s.txAnswer ∧ t.openAnswer = s.openAnswer ∧
    t.keepsBytes = s.keepsBytes ∧ t.clients = s.clients ∧ t.taken = s.taken ∧ t.reply = s.reply ∧
    t.moves = s.moves ∧ t.freeMoves = s.freeMoves ∧
    (∀ g, s.owner ≠ some g → mapGet t.mailbox g = mapGet s.mailbox g) ∧
    (t.owner ≠ none → t.mailbox = s.mailbox ∧ t.result = s.result ∧ t.devinfo = s.devinfo) ∧
    (i.cmd ≠ .openCmd → i.cmd ≠ .closeCmd → t.devinfo = s.devinfo) ∧
    (s.phase ≠ .send → t.outbound = s.outbound) ∧
    (∃ sent, t.outbound = s.outbound ++ sent ∧
      ∀ frame, stageFrame i.cmd i.param i.data s = some frame → sent <+: frame) ∧
    (s.phase ≠ .poll → ¬(s.phase = .idle ∧ s.cfg.rxDrainAtStart = true) → t.inbound = s.inbound) ∧
    (t.inbound = s.inbound ∨ t.inbound = []) ∧
    (s.phase ≠ .send → s.phase ≠ .poll → t.rxbuf = s.rxbuf) ∧
    (s.phase ≠ .flush → t.tOrigin = s.tOrigin) ∧
    (s.phase ≠ .flush → s.phase ≠ .check → t.nextPoll = s.nextPoll) ∧
    (s.phase ≠ .idle → t.expLen = s.expLen)

/-- In a state of the invariant, every step of the running request's instruction answers a next state: no
rule of the framer reads outside a precondition (40_checksum_codec.md R70, 42 R86, 60 R168(a)). -/
def Obligations.RunningCommandAnswersNext : Prop :=
  ∀ (i : Instr) (s : State), Inv s → s.phase ≠ .idle → instrOf s.cfg s.req = .ok i →
    ∃ t, exec i s = .next t

/-! ### The host port -/

/-- 44_transaction_sequencer.md R107: SUBMIT. A host with nothing waiting, running or undelivered joins the
waiters, or gets the CONSTRUCTION result of the check that fails; a host with something outstanding is
refused (the spec's decision D8). -/
def Obligations.SubmitJoinsOrRejects : Prop :=
  ∀ (s : State) (h : HostId) (code : Word16) (p : Word32) (data : Option Bytes) (tmo : Word32),
    (mapGet s.waiters h = none → s.owner ≠ some h → mapGet s.mailbox h = none →
      (checkRequest s.cfg code data = .noReject →
        perform (.submit h code p data tmo) s = .next { s with
          mailbox := mapErase s.mailbox h
          waiters := mapSet s.waiters h
            { code := code, param := p, data := data, timeoutMs := tmo, host := some h } }) ∧
      (checkRequest s.cfg code data ≠ .noReject →
        perform (.submit h code p data tmo) s = .next { s with
          mailbox := mapSet s.mailbox h
            { resp := none, baseOk := false, classOk := false, kind := .construction, errValue := 0,
              reject := checkRequest s.cfg code data, stage2 := false, ovf := false } })) ∧
    (mapGet s.waiters h ≠ none ∨ s.owner = some h ∨ mapGet s.mailbox h ≠ none →
      perform (.submit h code p data tmo) s = .refused .submitWhileOutstanding)

/-- 44_transaction_sequencer.md R119 and R120 (the spec's decision D30): CANCEL of a running transaction is
one step, after which STATUS.ABORTED reads 1; CANCEL of a host with nothing waiting or running has no
effect. -/
def Obligations.CancelAbandonsRunning : Prop :=
  (∀ (s : State) (h : HostId), s.owner ≠ some h → mapGet s.waiters h = none →
    perform (.cancel h) s = .next s) ∧
  ∀ (s : State) (h : HostId), s.owner = some h → s.phase ≠ .idle →
    ∃ res : Result,
      res = { resp := none, baseOk := false, classOk := false, kind := .cancelled, errValue := 0,
              reject := .noReject, stage2 := decide (s.stage = 2), ovf := false } ∧
      ∃ t, t = { s with
          result := res
          mailbox := mapSet s.mailbox h res
          owner := none
          phase := .idle
          stage := 0
          rxbuf := []
          doneFlag := true } ∧
        perform (.cancel h) s = .next t ∧ (readRegister t 0).getLsbD 8 = true

/-- 44_transaction_sequencer.md R118: CANCEL of a waiting request (in a reachable state a waiter is never
the owner: `Inv`). Nothing but the waiters and the host's mailbox changes, and every register reads as
before. -/
def Obligations.CancelRemovesWaiting : Prop :=
  ∀ (s : State) (h : HostId), s.owner ≠ some h → mapGet s.waiters h ≠ none →
    ∃ t, t = { s with
        waiters := mapErase s.waiters h
        mailbox := mapSet s.mailbox h
          { resp := none, baseOk := false, classOk := false, kind := .cancelled, errValue := 0,
            reject := .noReject, stage2 := false, ovf := false } } ∧
      perform (.cancel h) s = .next t ∧ ∀ n, readRegister t n = readRegister s n

/-- 44_transaction_sequencer.md R121: TAKE returns and empties the mailbox, and waits while it is empty.
Where the returned result stands in the model is log 31. -/
def Obligations.TakeDeliversMailbox : Prop :=
  ∀ (s : State) (h : HostId),
    (∀ r, mapGet s.mailbox h = some r → perform (.take h) s = .next { s with
      mailbox := mapErase s.mailbox h
      taken := mapSet s.taken h r
      reply := some (.result h r) }) ∧
    (mapGet s.mailbox h = none → perform (.take h) s = .next s)

/-! ### The register view -/

/-- 30_encoding.md R67: RDREG returns the register's value, changes nothing else, and reads 0 from number 19
on. -/
def Obligations.RegisterReadHasNoEffect : Prop :=
  ∀ (s : State) (h : HostId) (n : Nat),
    perform (.readReg h n) s = .next { s with reply := some (.register h n (readRegister s n)) } ∧
    (19 ≤ n → readRegister s n = 0) ∧
    ∀ m, readRegister { s with reply := some (.register h n (readRegister s n)) } m = readRegister s m

/-- STATUS bit by bit (10_state.md R23): the flags of the sequencer always, the flags of the result while
DONE = 1. What bits 2 to 8, 10 and 15 show while DONE = 0 is a free value (93 I4, log 17) and no claim. -/
def Obligations.StatusLayout : Prop :=
  ∀ s : State,
    (readRegister s 0).getLsbD 0 = s.owner.isSome ∧
    (readRegister s 0).getLsbD 1 = s.doneFlag ∧
    (readRegister s 0).getLsbD 9 = false ∧
    (readRegister s 0).getLsbD 11 = s.devinfo.isSome ∧
    (readRegister s 0).extractLsb' 12 3 =
      (match s.phase with
      | .idle => 0
      | .send => 1
      | .flush => 2
      | .poll => 3
      | .check => 4
      | .wait => 5) ∧
    (readRegister s 0).extractLsb' 16 2 = BitVec.ofNat 2 s.stage.val ∧
    (readRegister s 0).extractLsb' 18 14 = 0 ∧
    (s.doneFlag = true →
      (readRegister s 0).getLsbD 2 = s.result.baseOk ∧
      (readRegister s 0).getLsbD 3 = s.result.classOk ∧
      (readRegister s 0).getLsbD 4 = (s.result.resp.map Resp.hdrOk).getD false ∧
      (readRegister s 0).getLsbD 5 = (s.result.resp.map fun r => r.dp.isSome).getD false ∧
      (readRegister s 0).getLsbD 6 = (s.result.resp.map Resp.dpOk).getD false ∧
      (readRegister s 0).getLsbD 7 = (s.result.resp.map Resp.synth).getD false ∧
      (readRegister s 0).getLsbD 8 = decide (s.result.kind = .cancelled) ∧
      (readRegister s 0).getLsbD 10 = s.result.stage2 ∧
      (readRegister s 0).getLsbD 15 = s.result.ovf)

/-- ERROR and ERR_VALUE (10_state.md R24): while DONE = 1 they show the result's kind and value, and ERROR
never reads CONSTRUCTION or a rejection, for any free value while DONE = 0 (log 17). -/
def Obligations.ErrorRegisterKinds : Prop :=
  ∀ s : State, Inv s →
    (s.doneFlag = true →
      readRegister s 9 =
        (match s.result.kind with
        | .noError => 0
        | .invalidChecksum => 1
        | .duplicate => 2
        | .device => 3
        | .communication => 4
        | .construction => 5
        | .cancelled => 6) ∧
      readRegister s 10 = s.result.errValue) ∧
    (readRegister s 9 = 0 ∨ readRegister s 9 = 1 ∨ readRegister s 9 = 2 ∨ readRegister s 9 = 3 ∨
      readRegister s 9 = 4 ∨ readRegister s 9 = 6)

/-- 10_state.md R25 (the serial offset and the value 0 are the spec's decisions D19, D20): the
device-information registers, for the information decoded from any 24-byte data field, and for none. -/
def Obligations.DeviceInfoRegisters : Prop :=
  ∀ (s : State),
    (∀ d : Bytes, d.length = 24 → s.devinfo = decodeInit d →
      u32le d 0 = some (readRegister s 11) ∧ i32le d 4 = some (readRegister s 12) ∧
      u32le d 8 = some (readRegister s 13) ∧ u32le d 12 = some (readRegister s 14) ∧
      u32le d 16 = some (readRegister s 15) ∧ u32le d 20 = some (readRegister s 16)) ∧
    (s.devinfo = none → ∀ n, 11 ≤ n → n ≤ 16 → readRegister s n = 0)

/-- 10_state.md R27: the views of the sequencer's fields (RXLEN, RESP_PARAM and RESP_CODE at the times R27
gives them a content; that a length of 2^32 or more reads modulo 2^32 is log 36). -/
def Obligations.SequencerRegisters : Prop :=
  ∀ s : State,
    readRegister s 1 = BitVec.ofNat 32 s.req.code.toNat ∧
    readRegister s 2 = s.req.param ∧
    readRegister s 3 = s.req.timeoutMs ∧
    (s.req.data = none → readRegister s 4 = 0) ∧
    (∀ d, s.req.data = some d → readRegister s 4 = BitVec.ofNat 32 d.length) ∧
    readRegister s 5 = s.expLen ∧
    (s.owner ≠ none → readRegister s 6 = BitVec.ofNat 32 s.rxbuf.length) ∧
    (s.owner = none → s.doneFlag = true → ∀ r, s.result.resp = some r →
      readRegister s 6 = BitVec.ofNat 32 r.raw.length) ∧
    (s.doneFlag = true →
      (∀ r, s.result.resp = some r →
        readRegister s 7 = r.param ∧ readRegister s 8 = BitVec.ofNat 32 r.code.toNat) ∧
      (s.result.resp = none → readRegister s 7 = 0 ∧ readRegister s 8 = 0)) ∧
    (s.owner = none → readRegister s 18 = 0) ∧
    (∀ h, s.owner = some h → readRegister s 18 = BitVec.ofNat 32 (h + 1))

/-- 10_state.md R26: CAPACITY reads MODEL_CONSTANT - 1, no step changes it, and it is 199 for the
200-fingerprint model. What it reads for a model constant of 0 or above 2^31 is the model's choice (log 4).
-/
def Obligations.CapacityIsConstant : Prop :=
  (∀ s : State, Inv s →
    readRegister s 17 = BitVec.ofInt 32 ((s.cfg.modelConstant : Int) - 1) ∧
    ∀ t, step s = .next t → readRegister t 17 = readRegister s 17) ∧
  readRegister State.reset 17 = 199

/-! ### Reset, the invariant, the whole machine -/

/-- 10_state.md R31: the framer's fields and the time base after reset (the values R31 marks "decision" are
the spec's decision D31). -/
def Obligations.ResetValues : Prop :=
  State.reset.owner = none ∧ State.reset.waiters = [] ∧ State.reset.phase = .idle ∧
  State.reset.stage = 0 ∧
  State.reset.req = { code := 0, param := 0, data := none, timeoutMs := 1000, host := none } ∧
  State.reset.expLen = 0 ∧ State.reset.rxbuf = [] ∧ State.reset.tOrigin = 0 ∧
  State.reset.nextPoll = 0 ∧
  State.reset.result =
    { resp := none, baseOk := false, classOk := false, kind := .noError, errValue := 0,
      reject := .noReject, stage2 := false, ovf := false } ∧
  State.reset.doneFlag = false ∧ (∀ h, mapGet State.reset.mailbox h = none) ∧
  State.reset.devinfo = none ∧ (∀ n, 11 ≤ n → n ≤ 16 → readRegister State.reset n = 0) ∧
  State.reset.capacity = BitVec.ofInt 32 ((State.reset.cfg.modelConstant : Int) - 1) ∧
  State.reset.now = 0

/-- The invariant holds at reset, in any well-formed configuration. -/
def Obligations.ResetMeetsInvariant : Prop :=
  ∀ cfg : Config, cfg.wf = true → Inv (State.resetWith cfg)

/-- Every step keeps the invariant: the host maps stay canonical, the lock, phase and stage agree, only
checked requests wait or run, a host has at most one request outstanding, the receive buffer stays in its
bound, the capacity is constant, the result and the device information stay well formed. -/
def Obligations.StepKeepsInvariant : Prop :=
  ∀ s t : State, Inv s → step s = .next t → Inv t

/-- Read attempts stay on the grid `t_origin + k * POLL_MS` (44_transaction_sequencer.md R113, R124). -/
def Obligations.StepKeepsPollGrid : Prop :=
  ∀ s t : State, Inv s → pollGrid s → step s = .next t → pollGrid t

/-- 60_exceptions.md R168: from a state of the invariant the only fault a step can end in is the read of an
absent IMAGE value, and the only refusals are those of a SUBMIT while a request is outstanding and of a reset
while one is or after launch (70_reset_and_hazards.md R180; log 21). -/
def Obligations.StepFaultsOnlyOnAbsentImage : Prop :=
  ∀ s : State, Inv s →
    (∀ e, step s = .fault e → e = .imageValueAbsent) ∧
    (∀ e, step s = .refused e → e = .submitWhileOutstanding ∨ e = .resetWhileOutstanding ∨
      e = .resetAfterLaunch)

/-- 10_state.md R14: only the sequencer's grant step sets the lock, for a waiting host, and only the
sequencer's finish or the owner's cancellation clears it, with the owner's mailbox filled. -/
def Obligations.LockDiscipline : Prop :=
  ∀ (m : Move) (s t : State), Inv s → perform m s = .next t → t.owner ≠ s.owner →
    (s.owner = none ∧ ∃ h, m = .grant h ∧ t.owner = some h ∧ mapGet s.waiters h ≠ none ∧
      mapGet t.waiters h = none) ∨
    (t.owner = none ∧ ∃ h, s.owner = some h ∧ (m = .seq ∨ m = .cancel h) ∧
      mapGet t.mailbox h = some t.result ∧ t.doneFlag = true ∧ t.phase = .idle ∧ t.stage = 0)

/-- The channel accesses of a run belong to the lock's owner (20_memory.md R43): bytes reach the outbound
stream only in SEND of the running transaction and are never taken back, and bytes leave the inbound stream
only in a POLL of the running transaction, at a GRANT that drains, or when the port is opened or closed and
does not keep them (log 16): by a host's own move, or by its client task. -/
def Obligations.ChannelAccessNeedsLock : Prop :=
  ∀ (m : Move) (s t : State), Inv s → perform m s = .next t →
    s.outbound <+: t.outbound ∧
    (t.outbound ≠ s.outbound → m = .seq ∧ s.owner ≠ none ∧ s.phase = .send) ∧
    (¬ s.inbound <+: t.inbound →
      (m = .seq ∧ s.owner ≠ none ∧ s.phase = .poll) ∨
      (∃ h, m = .grant h ∧ s.cfg.rxDrainAtStart = true) ∨
      (s.keepsBytes = false ∧
        ((∃ h b, m = .portOpen h b ∧ s.openAnswer = true) ∨
          (∃ h, m = .portClose h) ∨
          (∃ h b k, m = .client h ∧ mapGet s.clients h = some (.portOpen b k) ∧ s.openAnswer = true) ∨
          (∃ h k, m = .client h ∧ mapGet s.clients h = some (.portClose k)))))

/-- 20_memory.md R48 (which it derives from R41): the device information is written only in the finish step
of an Open and of a Close transaction. -/
def Obligations.DeviceInfoSingleWriter : Prop :=
  ∀ (m : Move) (s t : State), Inv s → perform m s = .next t → t.devinfo ≠ s.devinfo →
    m = .seq ∧ s.owner ≠ none ∧ t.owner = none ∧
      ((s.req.code = s.cfg.codeOf .openCmd ∧ t.devinfo ≠ none) ∨
        (s.req.code = s.cfg.codeOf .closeCmd ∧ t.devinfo = none))

/-- A step runs the decoded instruction: the sequencer's move in a running transaction executes the
instruction its request decodes to; a GRANT executes the picked waiter's, latched; a sequencer move whose
guard does not hold changes nothing (log 9); and with no move listed the next move is the free one (log 8,
log 10). -/
def Obligations.StepRunsDecodedInstruction : Prop :=
  ∀ (s : State) (ms : List Move),
    (∀ i, s.moves = .seq :: ms → s.phase ≠ .idle → instrOf s.cfg s.req = .ok i →
      step s = exec i { s with moves := ms }) ∧
    (∀ h r i, s.moves = .grant h :: ms → s.owner = none → s.phase = .idle →
      mapGet s.waiters h = some r → instrOf s.cfg r = .ok i →
      step s = exec i { s with moves := ms, waiters := mapErase s.waiters h, req := r }) ∧
    (s.moves = .seq :: ms → s.phase = .idle → step s = .next { s with moves := ms }) ∧
    (∀ h, s.moves = .grant h :: ms → s.owner ≠ none ∨ mapGet s.waiters h = none →
      step s = .next { s with moves := ms }) ∧
    (∀ m, s.moves = m :: ms → step s = perform m { s with moves := ms }) ∧
    (s.moves = [] →
      step s = perform (Config.freeMove s.freeMoves) { s with freeMoves := s.freeMoves + 1 })

/-- A whole transaction of a command without attached data (45_commands.md R128): SUBMIT, GRANT, SEND,
FLUSH, the device's complete reply, POLL, CHECK. The host's mailbox holds the reply classified under the
command's class, exactly the command's header frame was sent, and the lock is free. The four commands with
attached data take two stages, whose steps are the statements on stage 1 and stage 2 above. -/
def Obligations.OneStageTransactionDelivers : Prop :=
  ∀ (s : State) (h : HostId) (c : Cmd) (p tmo : Word32) (reply : Bytes) (ms : List Move),
    Inv s → s.owner = none → mapGet s.waiters h = none → mapGet s.mailbox h = none →
    dpOutLen c = none → s.port ≠ none → s.txAnswer = .ok → s.inbound = [] →
    (predict s.cfg c p).toNat ≤ reply.length → reply.length ≤ s.cfg.rxBufMax →
    s.moves = [.submit h (s.cfg.codeOf c) p none tmo, .grant h, .seq, .seq, .device reply, .seq, .seq]
      ++ ms →
    ∃ r t, parse s.cfg reply = some r ∧ Sys2Proof.core.run 7 s = .next t ∧
      mapGet t.mailbox h = some (resultOf s.cfg r (classOf s.cfg c) false false) ∧
      t.outbound = s.outbound ++ buildCmd s.cfg (s.cfg.codeOf c) p ∧
      t.owner = none ∧ t.phase = .idle ∧ t.inbound = [] ∧ t.moves = ms ∧ t.now = s.now ∧
      ∀ g, g ≠ h → mapGet t.mailbox g = mapGet s.mailbox g ∧ mapGet t.waiters g = mapGet s.waiters g

/-- 44_transaction_sequencer.md R125 under the eager schedule: a running transaction whose writes and
flushes do not hang reaches FINISH, and its host's mailbox is filled. The model does not force fairness
(log 28), so the schedule is named. -/
def Obligations.EagerScheduleReachesFinish : Prop :=
  ∀ (s : State) (h : HostId), Inv s → s.owner = some h → s.txAnswer ≠ .pending →
    ∃ n t, eagerRun n s = .next t ∧ t.owner = none ∧ t.phase = .idle ∧ mapGet t.mailbox h ≠ none

/-- 44_transaction_sequencer.md R125 (derived there from R124) and 20_memory.md R47, on every run that is
weakly fair, under any schedule and with any bytes of the device (what fairness means for a run is log 28): a
running transaction whose write and flush do not hang reaches FINISH, unless its host cancels it, and its
result is delivered; and if no transaction hangs and the choice of the GRANT is fair, a waiting host is granted
the lock, unless it cancels. -/
def Obligations.FairRunFinishesAndGrants : Prop :=
  ∀ (m : Nat → Move) (r : Nat → State), IsRun m r → Inv (r 0) → WeaklyFair m r →
    (∀ n h, (r n).owner = some h → ¬Hangs r n h →
      ∃ k, n ≤ k ∧ (r k).owner = some h ∧ (r (k + 1)).owner = none ∧
        mapGet (r (k + 1)).mailbox h = some (r (k + 1)).result ∧ (m k = .seq ∨ m k = .cancel h)) ∧
    ((∀ n h, ¬Hangs r n h) → FairGrant m r →
      ∀ n h, mapGet (r n).waiters h ≠ none →
        ∃ k, n ≤ k ∧ mapGet (r k).waiters h ≠ none ∧ mapGet (r (k + 1)).waiters h = none ∧
          (m k = .grant h ∧ (r (k + 1)).owner = some h ∨ m k = .cancel h))

/-- The environment's moves, which have no other effect: the device delivers any bytes and the time base
advances by one (44_transaction_sequencer.md R125); the channel chooses its answers (log 14, log 16); a host
opens the port at a rate, which may fail, or closes it (46_client_sequences.md R154; what becomes of the
bytes held, and that a failed open changes nothing, is log 16; the recorded answer is log 31); reset at
launch gives the framer and the time base their reset values, which they have, and is refused while a request
is outstanding and after launch (70_reset_and_hazards.md R180, R182; log 21). -/
def Obligations.EnvironmentMovesAndReset : Prop :=
  ∀ s : State,
    (∀ b, perform (.device b) s = .next { s with inbound := s.inbound ++ b }) ∧
    perform .tick s = .next { s with now := s.now + 1 } ∧
    (∀ a openOk keeps, perform (.channel a openOk keeps) s =
      .next { s with txAnswer := a, openAnswer := openOk, keepsBytes := keeps }) ∧
    (∀ h baud, s.openAnswer = true → perform (.portOpen h baud) s = .next { s with
      port := some baud
      inbound := if s.keepsBytes = true then s.inbound else []
      reply := some (.opened h true) }) ∧
    (∀ h baud, s.openAnswer = false →
      perform (.portOpen h baud) s = .next { s with reply := some (.opened h false) }) ∧
    (∀ h, perform (.portClose h) s = .next { s with
      port := none
      inbound := if s.keepsBytes = true then s.inbound else [] }) ∧
    (s.toFramer = (State.resetWith s.cfg).toFramer → s.now = 0 → perform .reset s = .next s) ∧
    (s.waiters ≠ [] ∨ s.owner ≠ none ∨ s.mailbox ≠ [] →
      perform .reset s = .refused .resetWhileOutstanding) ∧
    (s.waiters = [] → s.owner = none → s.mailbox = [] →
      s.toFramer ≠ (State.resetWith s.cfg).toFramer ∨ s.now ≠ 0 →
      perform .reset s = .refused .resetAfterLaunch)

/-! ### The client sequences -/

/-- How a client operation begins (46_client_sequences.md R155, R156, R157, R159, R160; the lower bound 0 and
the levels are the spec's decisions D22, D23; the task form, and that a start beside a running task changes
nothing, is log 23). An argument out of range ends it with a Result of kind CONSTRUCTION and no TXN
(60_exceptions.md R167; its REJECT is log 35); otherwise a command begins its TXN, with the client time-out
of 30_encoding.md R60 when none is given; iteration 1 of an enrollment begins with EnrollStart, and
iterations 2 and 3 and a capture begin with the finger wait. A TXN's first step is the SUBMIT (R154), and a
finished task, or none, makes no step. -/
def Obligations.ClientArgumentChecks : Prop :=
  (∀ (s : State) (h : HostId), clientIdle s h = true →
    (∀ (c : Cmd) (p : Word32) (d : Option Bytes) (tmo : Option Word32) (bad : Prop),
      (bad ↔
        ((c = .enrollStart ∨ c = .enroll1 ∨ c = .enroll2 ∨ c = .enroll3) ∧
          (p.toInt < -1 ∨ s.capacity.toInt < p.toInt)) ∨
        ((c = .deleteId ∨ c = .verify ∨ c = .verifyTemplate ∨ c = .getTemplate ∨ c = .setTemplate) ∧
          (p.toInt < 0 ∨ s.capacity.toInt < p.toInt)) ∨
        (c = .setSecurityLevel ∧
          (p.toInt < s.cfg.secLevelMin.toInt ∨ s.cfg.secLevelMax.toInt < p.toInt))) →
      (bad → perform (.start h (.command c p d tmo)) s =
        .next { s with
          clients := mapSet s.clients h (.finished (.result
            { resp := none, baseOk := false, classOk := false, kind := .construction, errValue := 0,
              reject := .noReject, stage2 := false, ovf := false })) }) ∧
      (¬bad → perform (.start h (.command c p d tmo)) s =
        .next { s with
          clients := mapSet s.clients h (.submit c p d
            (tmo.getD
              (if c = .enroll1 ∨ c = .enroll2 ∨ c = .enroll3 then s.cfg.enrollTimeoutMs
              else if c = .isPressFinger then s.cfg.fingerQueryTimeoutMs
              else s.cfg.defaultTimeoutMs)) .command) })) ∧
    (∀ iteration u,
      ((iteration ≠ 1 ∧ iteration ≠ 2 ∧ iteration ≠ 3) ∨ u.toInt < -1 ∨ s.capacity.toInt < u.toInt →
        perform (.start h (.enroll iteration u)) s =
          .next { s with
            clients := mapSet s.clients h (.finished (.result
              { resp := none, baseOk := false, classOk := false, kind := .construction, errValue := 0,
                reject := .noReject, stage2 := false, ovf := false })) }) ∧
      (-1 ≤ u.toInt → u.toInt ≤ s.capacity.toInt →
        (iteration = 1 → perform (.start h (.enroll iteration u)) s =
          .next { s with
            clients := mapSet s.clients h
              (.submit .enrollStart u none s.cfg.defaultTimeoutMs (.enrollStartReply .enroll1 u)) }) ∧
        (∀ c, (iteration = 2 ∧ c = .enroll2) ∨ (iteration = 3 ∧ c = .enroll3) →
          perform (.start h (.enroll iteration u)) s =
            .next { s with
              clients := mapSet s.clients h
                (.submit .isPressFinger 0 none s.cfg.fingerQueryTimeoutMs
                  (.fingerReply { action := .place, timeoutMs := s.cfg.fingerPlaceWaitMs, t0 := s.now,
                                  after := .capture .template (.enroll c u) })) }))) ∧
    (∀ cls tmo, perform (.start h (.captureWithPattern cls tmo)) s =
      .next { s with
        clients := mapSet s.clients h
          (.submit .isPressFinger 0 none s.cfg.fingerQueryTimeoutMs
            (.fingerReply { action := .place, timeoutMs := tmo, t0 := s.now,
                            after := .capture cls .ret })) }) ∧
    perform (.client h) s = .next s) ∧
  (∀ (s : State) (h : HostId) (op : ClientOp), clientIdle s h = false →
    perform (.start h op) s = .next s) ∧
  (∀ (s : State) (h : HostId) (c : Cmd) (p : Word32) (d : Option Bytes) (tmo : Word32) (k : Cont),
    mapGet s.clients h = some (.submit c p d tmo k) →
    perform (.client h) s = perform (.submit h (s.cfg.codeOf c) p d tmo)
      { s with clients := mapSet s.clients h (.take k) })

/-- The TAKE and the DELAY of a client task (46_client_sequences.md R154), with what follows each, and what
follows in WAIT_FOR_FINGER (R158; the pressed value and the order of the tests are the spec's decisions D24,
D9; the task form is log 23): its first query, the decision after any query's result, also one with no
response, for a wait on its own and one inside a capture, and the query after the delay. -/
def Obligations.FingerWaitDecides : Prop :=
  (∀ (s : State) (h : HostId) (k : Cont), mapGet s.clients h = some (.take k) →
    (∀ r, mapGet s.mailbox h = some r → perform (.client h) s = .next { s with
      mailbox := mapErase s.mailbox h
      taken := mapSet s.taken h r
      reply := some (.result h r)
      clients := mapSet s.clients h (afterResult s.cfg s.now r k) }) ∧
    (mapGet s.mailbox h = none → perform (.client h) s = .next s)) ∧
  (∀ (s : State) (h : HostId) (until_ : Nat) (k : Cont), mapGet s.clients h = some (.delay until_ k) →
    (until_ ≤ s.now → perform (.client h) s =
      .next { s with clients := mapSet s.clients h (afterDelay s.cfg k) }) ∧
    (s.now < until_ → perform (.client h) s = .next s)) ∧
  (∀ (s : State) (h : HostId) (a : FingerAction) (tmo : Nat), clientIdle s h = true →
    perform (.start h (.waitForFinger a tmo)) s = .next { s with
      clients := mapSet s.clients h
        (.submit .isPressFinger 0 none s.cfg.fingerQueryTimeoutMs
          (.fingerReply { action := a, timeoutMs := tmo, t0 := s.now, after := .ret })) }) ∧
  (∀ (cfg : Config) (now : Nat) (f : Finger) (r : Result),
    afterResult cfg now r (.fingerReply f) =
      (if r.baseOk = false then afterWait cfg false f.after
      else if (f.action = .place ∧ r.resp.map Resp.param = some cfg.pressedValue) ∨
          (f.action = .remove ∧ r.resp.map Resp.param ≠ some cfg.pressedValue) then
        afterWait cfg true f.after
      else if f.t0 + f.timeoutMs ≤ now then afterWait cfg false f.after
      else .delay (now + cfg.pollMs) (.fingerAgain f)) ∧
    afterDelay cfg (.fingerAgain f) =
      .submit .isPressFinger 0 none cfg.fingerQueryTimeoutMs (.fingerReply f) ∧
    ∀ b, afterWait cfg b .ret = .finished (.bool b))

/-- 46_client_sequences.md R159 and R160: after a failed finger wait a capture is the FingerNotPressed
response under the wanted class, with no CaptureFinger; after a successful one CaptureFinger is issued, and
its response is classified again (a result with no response stays as it is, log 24). Alone, the capture
returns that result; in an enrollment, Enroll is issued only after a class-successful capture, and in
iteration 1 the capture begins only after a successful EnrollStart. Stated on what follows each reply. -/
def Obligations.CaptureAndEnrollSequence : Prop :=
  ∀ (cfg : Config) (now : Nat) (cls : RespClass) (k : AfterCapture) (c : Cmd) (u : Word32) (r : Result),
    afterWait cfg true (.capture cls k) =
      .submit .captureFinger cfg.captureParam none cfg.defaultTimeoutMs (.captureReply cls k) ∧
    afterWait cfg false (.capture cls .ret) =
      .finished (.result (resultOf cfg (fnp cfg) cls false false)) ∧
    (cfg.wf = true → afterWait cfg false (.capture cls (.enroll c u)) =
      .finished (.result (resultOf cfg (fnp cfg) cls false false))) ∧
    (0x1001 ≤ cfg.errFingerNotPressed.toInt → cfg.wf = true →
      (resultOf cfg (fnp cfg) cls false false).kind = .device ∧
      (resultOf cfg (fnp cfg) cls false false).errValue = cfg.errFingerNotPressed) ∧
    (∀ x, r.resp = some x →
      afterResult cfg now r (.captureReply cls .ret) =
        .finished (.result (resultOf cfg x cls r.stage2 r.ovf)) ∧
      (classOk cfg x cls = true →
        afterResult cfg now r (.captureReply cls (.enroll c u)) =
          .submit c u none cfg.enrollTimeoutMs .enrollReply) ∧
      (classOk cfg x cls = false →
        afterResult cfg now r (.captureReply cls (.enroll c u)) =
          .finished (.result (resultOf cfg x cls r.stage2 r.ovf)))) ∧
    (r.resp = none → afterResult cfg now r (.captureReply cls k) = afterCapture cfg r k) ∧
    (r.baseOk = false →
      afterResult cfg now r (.enrollStartReply c u) = .finished (.result r)) ∧
    (r.baseOk = true →
      afterResult cfg now r (.enrollStartReply c u) =
        .submit .isPressFinger 0 none cfg.fingerQueryTimeoutMs
          (.fingerReply { action := .place, timeoutMs := cfg.fingerPlaceWaitMs, t0 := now,
                          after := .capture .template (.enroll c u) })) ∧
    afterCapture cfg r .ret = .finished (.result r) ∧
    (r.classOk = false → afterCapture cfg r (.enroll c u) = .finished (.result r)) ∧
    (r.classOk = true →
      afterCapture cfg r (.enroll c u) = .submit c u none cfg.enrollTimeoutMs .enrollReply) ∧
    afterResult cfg now r .enrollReply = .finished (.result r) ∧
    afterResult cfg now r .command = .finished (.result r)

/-- 46_client_sequences.md R162 to R165: the order of SESSION_OPEN and SESSION_CLOSE, as what follows each
step: the settle delays, the baud change accepted on success or COMMUNICATION only, the Open exchange that
must be class-successful, the LED, and the close; and the steps that open and close the port in it (the bytes
held are log 16, the task form is log 23). -/
def Obligations.SessionOpenCloseSequence : Prop :=
  (∀ (s : State) (h : HostId), clientIdle s h = true →
    perform (.start h .sessionOpen) s =
      .next { s with clients := mapSet s.clients h (.portOpen s.cfg.probeBaud .probeOpened) } ∧
    perform (.start h .sessionClose) s =
      .next { s with
        clients := mapSet s.clients h
          (.submit .closeCmd 0 none s.cfg.defaultTimeoutMs .closeReply) }) ∧
  (∀ (s : State) (h : HostId) (b : Word32) (k : Cont),
    mapGet s.clients h = some (.portOpen b k) → s.openAnswer = false →
    perform (.client h) s = .next { s with clients := mapSet s.clients h (.finished .fatal) }) ∧
  (∀ (s : State) (h : HostId) (b : Word32) (k : Cont),
    mapGet s.clients h = some (.portOpen b k) → s.openAnswer = true →
    perform (.client h) s = .next { s with
      port := some b
      inbound := if s.keepsBytes = true then s.inbound else []
      clients := mapSet s.clients h (afterPort s.cfg s.now k) }) ∧
  (∀ (s : State) (h : HostId) (k : Cont), mapGet s.clients h = some (.portClose k) →
    perform (.client h) s = .next { s with
      port := none
      inbound := if s.keepsBytes = true then s.inbound else []
      clients := mapSet s.clients h (afterPort s.cfg s.now k) }) ∧
  ∀ (cfg : Config) (now : Nat) (r : Result),
    afterPort cfg now .probeOpened = .delay (now + cfg.settleMs) .probeSettled ∧
    afterPort cfg now .switchClosed = .delay (now + cfg.settleMs) .switchSettled ∧
    afterPort cfg now .targetOpened = .delay (now + cfg.settleMs) .targetSettled ∧
    afterPort cfg now .sessionClosed = .delay (now + cfg.settleMs) .sessionSettled ∧
    (cfg.probeBaud ≠ cfg.targetBaud → afterDelay cfg .probeSettled =
      .submit .changeBaudRate cfg.targetBaud none cfg.defaultTimeoutMs .baudReply) ∧
    (cfg.probeBaud = cfg.targetBaud → afterDelay cfg .probeSettled =
      .submit .openCmd 1 none cfg.defaultTimeoutMs .openReply) ∧
    (r.baseOk = true ∨ r.kind = .communication →
      afterResult cfg now r .baudReply = .portClose .switchClosed) ∧
    (r.baseOk = false → r.kind ≠ .communication →
      afterResult cfg now r .baudReply = .finished .fatal) ∧
    afterDelay cfg .switchSettled = .portOpen cfg.targetBaud .targetOpened ∧
    afterDelay cfg .targetSettled = .submit .openCmd 1 none cfg.defaultTimeoutMs .openReply ∧
    (r.classOk = false → afterResult cfg now r .openReply = .finished .fatal) ∧
    (r.classOk = true → afterResult cfg now r .openReply =
      .submit .cmosLed cfg.ledOnParam none cfg.defaultTimeoutMs .ledReply) ∧
    afterResult cfg now r .ledReply = .finished .ok ∧
    afterResult cfg now r .closeReply = .portClose .sessionClosed ∧
    afterDelay cfg .sessionSettled = .finished .ok
end

