-- ==== Sys2Proof/Laws/Operands.lean ====
section
/-!
SUPPORT. The laws of operand assembly: lengths, sums, when a field read or a checksum succeeds, and the
bounds of the length prediction.
-/

namespace Sys2Proof

@[simp] theorem le16_length (v : Word16) : (le16 v).length = 2 := rfl

@[simp] theorem le32_length (v : Word32) : (le32 v).length = 4 := rfl

@[simp] theorem withChecksum_length (b : Bytes) : (withChecksum b).length = b.length + 2 := by
  simp [withChecksum]

@[simp] theorem headerBody_length (cfg : Config) (code : Word16) (p : Word32) :
    (headerBody cfg code p).length = 10 := by
  simp [headerBody]

@[simp] theorem buildCmd_length (cfg : Config) (code : Word16) (p : Word32) :
    (buildCmd cfg code p).length = 12 := by
  simp [buildCmd]

@[simp] theorem buildDp_length (cfg : Config) (d : Bytes) :
    (buildDp cfg d).length = d.length + 6 := by
  simp [buildDp]; omega

@[simp] theorem byteSum_append (a b : Bytes) : byteSum (a ++ b) = byteSum a + byteSum b := by
  induction a with
  | nil => simp [byteSum]
  | cons x a ih => simp [byteSum, ih]; omega

theorem slice_length (b : Bytes) (i j : Nat) : (slice b i j).length = min (j + 1 - i) (b.length - i) := by
  simp [slice]

theorem slice_zero (b : Bytes) (j : Nat) : slice b 0 j = b.take (j + 1) := by
  simp [slice]

/-- `CHK16` answers exactly inside its precondition (R70). -/
theorem chk16_eq_some {b : Bytes} {s e : Int} (h : 0 ≤ s ∧ s ≤ e ∧ e < b.length) :
    chk16 b s e = some (sum16 (slice b s.toNat e.toNat)) := if_pos h

theorem u16le_eq_some {b : Bytes} {i : Nat} (h : i + 1 < b.length) :
    u16le b i = some (BitVec.ofNat 16 (b[i].toNat + 2 ^ 8 * b[i + 1].toNat)) := by
  simp only [u16le, List.getElem?_eq_getElem (show i < b.length by omega),
    List.getElem?_eq_getElem h]

theorem u16le_eq_none {b : Bytes} {i : Nat} (h : b.length ≤ i + 1) : u16le b i = none := by
  unfold u16le
  rw [List.getElem?_eq_none h]
  split <;> simp_all

theorem u32le_eq_some {b : Bytes} {i : Nat} (h : i + 3 < b.length) :
    u32le b i = some (BitVec.ofNat 32 (b[i].toNat + 2 ^ 8 * b[i + 1].toNat + 2 ^ 16 * b[i + 2].toNat
      + 2 ^ 24 * b[i + 3].toNat)) := by
  simp only [u32le, List.getElem?_eq_getElem (show i < b.length by omega),
    List.getElem?_eq_getElem (show i + 1 < b.length by omega),
    List.getElem?_eq_getElem (show i + 2 < b.length by omega), List.getElem?_eq_getElem h]

theorem u32le_eq_none {b : Bytes} {i : Nat} (h : b.length ≤ i + 3) : u32le b i = none := by
  unfold u32le
  rw [List.getElem?_eq_none h]
  split <;> simp_all

/-- `VALID16` answers whenever the range lies in the buffer (R72). -/
theorem valid16_eq_some {b : Bytes} {s e : Int} (hs : 0 ≤ s) (he : e < b.length) :
    ∃ v, valid16 b s e = some v := by
  unfold valid16
  rw [if_pos ⟨hs, he⟩]
  split
  · exact ⟨_, rfl⟩
  · rw [chk16_eq_some ⟨hs, by omega, by omega⟩, u16le_eq_some (by omega)]
    exact ⟨_, rfl⟩

/-- The rows of R6 that the codecs, the serializer and the parser read, in a well-formed configuration. -/
theorem Config.wf_rows {cfg : Config} (h : cfg.wf = true) :
    cfg.deviceId = 0x0001 ∧ cfg.hdrStart = (0x55, 0xAA) ∧ cfg.dpStart = (0x5A, 0xA5) ∧ cfg.hdrLen = 12
      ∧ cfg.dpOverhead = 6 ∧ cfg.ack = 0x0030 ∧ cfg.nack = 0x0031 ∧ cfg.dupLimit = 0x1001
      ∧ cfg.fastSearchOk = 0x55 ∧ cfg.defaultTimeoutMs = 1000 ∧ cfg.fingerQueryTimeoutMs = 2000
      ∧ cfg.enrollTimeoutMs = 5000 ∧ cfg.fingerPlaceWaitMs = 10000 ∧ cfg.pollMs = 10
      ∧ cfg.settleMs = 100 ∧ cfg.probeBaud = 9600 ∧ cfg.targetBaud = 115200 := by
  simpa [Config.wf, Config.sourceRows, and_assoc] using (Bool.and_eq_true_iff.1 h).1

theorem Cmd.mem_all (c : Cmd) : c ∈ Cmd.all := by cases c <;> decide

/-- Two commands with one code are one command, in a well-formed configuration. -/
theorem Config.codeOf_injective {cfg : Config} (h : cfg.wf = true) {c d : Cmd}
    (hcd : cfg.codeOf c = cfg.codeOf d) : c = d := by
  have hd := (Bool.and_eq_true_iff.1 h).2
  simp only [Config.codesDistinct, List.all_eq_true, Bool.or_eq_true, bne_iff_ne, beq_iff_eq] at hd
  exact (hd c (Cmd.mem_all c) d (Cmd.mem_all d)).resolve_left fun hne => hne hcd

/-- The prediction is never below a header frame (R103). -/
theorem predict_ge {cfg : Config} (h : cfg.wf = true) (c : Cmd) (p : Word32) :
    12 ≤ (predict cfg c p).toNat := by
  obtain ⟨-, -, -, hl, ho, -⟩ := Config.wf_rows h
  unfold predict
  rw [hl, ho]
  cases c <;> simp only [dpInLen] <;> (repeat' split) <;> decide

end Sys2Proof
end

