-- ==== Sys2Proof/Laws/Decode.lean ====
section
/-!
SUPPORT. The laws of the request decoder: codes and commands correspond, and a request decodes to an
instruction exactly when it carries that instruction's code, parameter and well-formed data.
-/

namespace Sys2Proof

theorem codeOf_of_cmdOfCode {cfg : Config} {code : Word16} {c : Cmd}
    (h : cmdOfCode cfg code = some c) : cfg.codeOf c = code := by
  simpa using List.find?_some h

theorem cmdOfCode_codeOf {cfg : Config} (hwf : cfg.wf = true) (c : Cmd) :
    cmdOfCode cfg (cfg.codeOf c) = some c := by
  cases h : cmdOfCode cfg (cfg.codeOf c) with
  | none =>
    have := List.find?_eq_none.1 h c (Cmd.mem_all c)
    simp at this
  | some d => rw [Config.codeOf_injective hwf (codeOf_of_cmdOfCode h)]

@[simp] theorem ofCmd_cmd (c : Cmd) (p : Word32) (d : Bytes) : (Instr.ofCmd c p d).cmd = c := by
  cases c <;> rfl

@[simp] theorem ofCmd_param (c : Cmd) (p : Word32) (d : Bytes) : (Instr.ofCmd c p d).param = p := by
  cases c <;> rfl

/-- The commands with attached data are those of `DP_OUT_LEN` (R80). -/
theorem data_isSome (i : Instr) : i.data.isSome = (dpOutLen i.cmd).isSome := by
  cases i <;> rfl

theorem ofCmd_data (c : Cmd) (p : Word32) (d : Bytes) :
    (Instr.ofCmd c p d).data = if (dpOutLen c).isSome then some d else none := by
  cases c <;> rfl

@[simp] theorem ofCmd_self (i : Instr) : Instr.ofCmd i.cmd i.param (i.data.getD []) = i := by
  cases i <;> rfl

/-- A request that decodes carries the instruction's code, parameter and data. -/
theorem decodeRequest_ok {cfg : Config} {code : Word16} {p : Word32} {data : Option Bytes} {i : Instr}
    (h : decodeRequest cfg code p data = .ok i) :
    checkRequest cfg code data = .noReject ∧ cmdOfCode cfg code = some i.cmd ∧ i.param = p
      ∧ i.data = data ∧ i.wellFormed = true := by
  unfold decodeRequest at h
  split at h
  · rename_i c hchk hcmd
    cases h
    refine ⟨hchk, by simpa using hcmd, ofCmd_param .., ?_, ?_⟩ <;>
    · unfold checkRequest at hchk
      rw [hcmd] at hchk
      cases hout : dpOutLen c <;> cases data <;> simp_all [ofCmd_data, Instr.wellFormed]
  · cases h

/-- A request that CHECK_REQUEST passes decodes. -/
theorem decodeRequest_of_check {cfg : Config} {code : Word16} (p : Word32) {data : Option Bytes}
    (h : checkRequest cfg code data = .noReject) :
    ∃ i, decodeRequest cfg code p data = .ok i := by
  cases hc : cmdOfCode cfg code with
  | none => simp [checkRequest, hc] at h
  | some c => exact ⟨_, by unfold decodeRequest; rw [h, hc]⟩

end Sys2Proof
end

