-- ==== Sys2Proof/Laws/Dispatch.lean ====
section
/-!
SUPPORT. The meaning of an instruction is the sequencer's step of its command, parameter and data; and what
the sequencer's moves execute.
-/

namespace Sys2Proof.Machine

/-- Every meaning is one call of `runCommand` on the instruction's own operands. -/
theorem exec_eq_runCommand (i : Instr) (s : State) :
    exec i s = runCommand i.cmd i.param i.data s := by
  cases i <;> rfl

/-- Running the latched request is executing the instruction it decodes to. -/
theorem runReq_of_instrOf {s : State} {i : Instr} (h : instrOf s.cfg s.req = .ok i) :
    runReq s = exec i s := by
  simp [runReq, h]

/-- The sequencer's move in a running transaction runs its request. -/
theorem seqMove_of_running {s : State} (h : s.phase ≠ .idle) : seqMove s = runReq s := by
  unfold seqMove
  split <;> first | contradiction | rfl

/-- The GRANT of a waiter on a free lock runs its request, latched. -/
theorem grantMove_of_waiting {s : State} {h : HostId} {r : Request} (ho : s.owner = none)
    (hp : s.phase = .idle) (hw : mapGet s.waiters h = some r) :
    grantMove h s = runReq (s.latch h r) := by
  simp [grantMove, ho, hp, hw]

/-- A request CHECK_REQUEST passes has an instruction, with the request's parameter and data. -/
theorem instrOf_of_check {cfg : Config} {r : Request} (h : checkRequest cfg r.code r.data = .noReject) :
    ∃ i, instrOf cfg r = .ok i ∧ cmdOfCode cfg r.code = some i.cmd ∧ i.param = r.param
      ∧ i.data = r.data := by
  obtain ⟨i, hi⟩ := decodeRequest_of_check r.param h
  obtain ⟨-, hc, hp, hd, -⟩ := decodeRequest_ok hi
  exact ⟨i, hi, hc, hp, hd⟩

end Sys2Proof.Machine
end

