-- ==== Sys2Proof/Laws/Flags.lean ====
section
/-!
SUPPORT. The laws of the parser and the classifier: when PARSE answers and what it answers, how class
success, base success and the kind hang together, and the response the framer synthesizes.
-/

namespace Sys2Proof.Machine

/-- PARSE_DP answers on every region that the framing lengths allow (R88). -/
theorem parseDp_eq_some {cfg : Config} (hwf : cfg.wf = true) (r : Bytes) :
    ∃ v, parseDp cfg r = some v := by
  obtain ⟨-, -, -, -, ho, -⟩ := Config.wf_rows hwf
  unfold parseDp
  rw [ho]
  split
  · obtain ⟨v, hv⟩ := valid16_eq_some (b := r) (s := 0) (e := (r.length : Int) - 1) (by omega) (by omega)
    rw [hv]; exact ⟨_, rfl⟩
  · exact ⟨_, rfl⟩

/-- PARSE answers on every buffer of at least 12 bytes, and its response is not a synthesized one (R86). -/
theorem parse_eq_some {cfg : Config} (hwf : cfg.wf = true) {raw : Bytes} (hl : 12 ≤ raw.length) :
    ∃ r, parse cfg raw = some r := by
  obtain ⟨-, -, -, hh, -⟩ := Config.wf_rows hwf
  obtain ⟨v, hv⟩ := valid16_eq_some (b := raw) (s := 0) (e := (cfg.hdrLen : Int) - 1) (by omega)
    (by rw [hh]; push_cast; omega)
  unfold parse i32le
  rw [u32le_eq_some (show 4 + 3 < raw.length by omega),
    u16le_eq_some (show 8 + 1 < raw.length by omega), hv]
  dsimp only
  split
  · exact ⟨_, rfl⟩
  · obtain ⟨w, hw⟩ := parseDp_eq_some hwf (raw.drop cfg.hdrLen)
    rw [hw]; exact ⟨_, rfl⟩

/-- What PARSE keeps of the buffer, and that it never marks a response synthesized (R86). -/
theorem parse_spec {cfg : Config} {raw : Bytes} {r : Resp} (h : parse cfg raw = some r) :
    r.raw = raw ∧ r.synth = false ∧ i32le raw 4 = some r.param ∧ u16le raw 8 = some r.code
      ∧ valid16 raw 0 (cfg.hdrLen - 1) = some r.hdrOk := by
  unfold parse at h
  split at h
  · rename_i p c v hp hc hv
    split at h
    · cases h; exact ⟨rfl, rfl, hp, hc, hv⟩
    · split at h
      · cases h; exact ⟨rfl, rfl, hp, hc, hv⟩
      · cases h
  · cases h

/-- Class success implies base success, in every class (R95). -/
theorem baseOk_of_classOk {cfg : Config} {r : Resp} {cls : RespClass} (h : classOk cfg r cls = true) :
    baseOk cfg r = true := by
  cases cls <;> simp only [classOk] at h
  case init => split at h <;> simp_all
  all_goals simp_all

/-- A synthesized response is base-successful in no configuration (R91). -/
@[simp] theorem baseOk_synth (cfg : Config) : baseOk cfg (synth cfg) = false := by
  simp [baseOk, synth]

@[simp] theorem classOk_synth (cfg : Config) (cls : RespClass) : classOk cfg (synth cfg) cls = false := by
  cases h : classOk cfg (synth cfg) cls with
  | false => rfl
  | true => exact absurd (baseOk_of_classOk h) (by simp)

@[simp] theorem kindOf_synth (cfg : Config) (cls : RespClass) :
    kindOf cfg (synth cfg) cls = (.communication, cfg.errCommErr) := by
  simp [kindOf, synth]

/-- The kind is NONE exactly on class success (R93). -/
theorem kindOf_noError_iff (cfg : Config) (r : Resp) (cls : RespClass) :
    (kindOf cfg r cls).1 = .noError ↔ classOk cfg r cls = true := by
  unfold kindOf
  split
  · rename_i hs
    constructor
    · intro h; cases h
    · intro h
      have := baseOk_of_classOk h
      simp [baseOk, hs] at this
  · split
    · simp_all
    · constructor
      · intro h; split at h <;> cases h
      · intro h; contradiction

/-- KIND never gives the kinds of the sequencer (R93). -/
theorem kindOf_ne_construction (cfg : Config) (r : Resp) (cls : RespClass) :
    (kindOf cfg r cls).1 ≠ .construction := by
  unfold kindOf
  repeat' split
  all_goals intro h; cases h

end Sys2Proof.Machine
end

