-- ==== Sys2Proof/Laws/HostMap.lean ====
section
/-!
SUPPORT. The laws of the maps from hosts to values: reading after setting and after erasing, and that both
keep the canonical form.
-/

namespace Sys2Proof.Machine

variable {α : Type}

@[simp] theorem mapGet_nil (h : HostId) : mapGet ([] : List (HostId × α)) h = none := rfl

theorem mapGet_cons (k : HostId) (v : α) (m : List (HostId × α)) (h : HostId) :
    mapGet ((k, v) :: m) h = if h = k then some v else mapGet m h := rfl

/-- A key below every key of a canonical map is absent from it. -/
theorem mapGet_of_lt (m : List (HostId × α)) :
    ∀ {k : HostId} {v : α} {h : HostId}, mapWf ((k, v) :: m) = true → h < k → mapGet m h = none := by
  induction m with
  | nil => intros; rfl
  | cons p m ih =>
    obtain ⟨k', v'⟩ := p
    intro k v h hw hlt
    simp only [mapWf, Bool.and_eq_true, decide_eq_true_eq] at hw
    have hlt' : h < k' := lt_trans hlt hw.1
    rw [mapGet_cons, if_neg (ne_of_lt hlt')]
    exact ih hw.2 hlt'

theorem mapWf_tail {p : HostId × α} {m : List (HostId × α)} (hw : mapWf (p :: m) = true) :
    mapWf m = true := by
  cases m with
  | nil => rfl
  | cons q m => simp only [mapWf, Bool.and_eq_true] at hw; exact hw.2

@[simp] theorem mapGet_mapSet_self (m : List (HostId × α)) (h : HostId) (v : α) :
    mapGet (mapSet m h v) h = some v := by
  induction m with
  | nil => simp [mapSet, mapGet]
  | cons p m ih =>
    obtain ⟨k, w⟩ := p
    simp only [mapSet]
    split
    · simp [mapGet]
    · split
      · simp [mapGet]
      · rw [mapGet_cons, if_neg ‹_›, ih]

theorem mapGet_mapSet_of_ne (m : List (HostId × α)) {h k : HostId} (v : α) (hne : k ≠ h) :
    mapGet (mapSet m h v) k = mapGet m k := by
  induction m with
  | nil => simp [mapSet, mapGet, hne]
  | cons p m ih =>
    obtain ⟨k', w⟩ := p
    simp only [mapSet]
    split
    · simp [mapGet_cons, hne]
    · split
      · subst_vars; simp [mapGet_cons, hne]
      · simp [mapGet_cons, ih]

theorem mapGet_mapSet (m : List (HostId × α)) (h k : HostId) (v : α) :
    mapGet (mapSet m h v) k = if k = h then some v else mapGet m k := by
  split
  · subst_vars; simp
  · exact mapGet_mapSet_of_ne m v ‹_›

@[simp] theorem mapGet_mapErase_self (m : List (HostId × α)) (h : HostId) :
    mapGet (mapErase m h) h = none := by
  induction m with
  | nil => rfl
  | cons p m ih =>
    obtain ⟨k, w⟩ := p
    by_cases hk : k = h
    · subst hk; simpa [mapErase] using ih
    · have : mapErase ((k, w) :: m) h = (k, w) :: mapErase m h := by simp [mapErase, hk]
      rw [this, mapGet_cons, if_neg (Ne.symm hk), ih]

theorem mapGet_mapErase_of_ne (m : List (HostId × α)) {h k : HostId} (hne : k ≠ h) :
    mapGet (mapErase m h) k = mapGet m k := by
  induction m with
  | nil => rfl
  | cons p m ih =>
    obtain ⟨k', w⟩ := p
    by_cases hk : k' = h
    · subst hk
      have : mapErase ((k', w) :: m) k' = mapErase m k' := by simp [mapErase]
      rw [this, mapGet_cons, if_neg hne, ih]
    · have : mapErase ((k', w) :: m) h = (k', w) :: mapErase m h := by simp [mapErase, hk]
      rw [this, mapGet_cons, mapGet_cons, ih]

theorem mapGet_mapErase (m : List (HostId × α)) (h k : HostId) :
    mapGet (mapErase m h) k = if k = h then none else mapGet m k := by
  split
  · subst_vars; simp
  · exact mapGet_mapErase_of_ne m ‹_›

theorem mapErase_of_absent (m : List (HostId × α)) (h : HostId) (hn : mapGet m h = none) :
    mapErase m h = m := by
  induction m with
  | nil => rfl
  | cons p m ih =>
    obtain ⟨k, w⟩ := p
    rw [mapGet_cons] at hn
    split at hn
    · cases hn
    · have hk : k ≠ h := fun e => ‹¬h = k› e.symm
      have : mapErase ((k, w) :: m) h = (k, w) :: mapErase m h := by simp [mapErase, hk]
      rw [this, ih hn]

/-- What a canonical map's head binds is below every other key. -/
theorem mapWf_cons_iff (k : HostId) (v : α) (m : List (HostId × α)) :
    mapWf ((k, v) :: m) = true ↔ mapWf m = true ∧ ∀ p ∈ m, k < p.1 := by
  induction m generalizing k v with
  | nil => simp [mapWf]
  | cons p m ih =>
    obtain ⟨k', v'⟩ := p
    simp only [mapWf, Bool.and_eq_true, decide_eq_true_eq, List.mem_cons, forall_eq_or_imp]
    constructor
    · rintro ⟨hlt, hw⟩
      exact ⟨hw, hlt, fun q hq => lt_trans hlt (((ih k' v').1 hw).2 q hq)⟩
    · rintro ⟨hw, hlt, -⟩
      exact ⟨hlt, hw⟩

theorem mem_mapSet {m : List (HostId × α)} {h : HostId} {v : α} {p : HostId × α}
    (hp : p ∈ mapSet m h v) : p = (h, v) ∨ p ∈ m := by
  induction m with
  | nil => simpa [mapSet] using hp
  | cons q m ih =>
    obtain ⟨k, w⟩ := q
    simp only [mapSet] at hp
    split at hp
    · simpa using hp
    · split at hp
      · simp only [List.mem_cons] at hp ⊢; tauto
      · simp only [List.mem_cons] at hp ⊢
        rcases hp with hp | hp
        · tauto
        · rcases ih hp with hp | hp <;> tauto

theorem mapWf_mapSet (m : List (HostId × α)) (h : HostId) (v : α) (hw : mapWf m = true) :
    mapWf (mapSet m h v) = true := by
  induction m with
  | nil => rfl
  | cons p m ih =>
    obtain ⟨k, w⟩ := p
    have hk := (mapWf_cons_iff k w m).1 hw
    simp only [mapSet]
    split
    · rw [mapWf_cons_iff]
      refine ⟨hw, ?_⟩
      intro q hq
      simp only [List.mem_cons] at hq
      rcases hq with rfl | hq
      · assumption
      · exact lt_trans ‹_› (hk.2 q hq)
    · split
      · subst_vars; rw [mapWf_cons_iff]; exact hk
      · rw [mapWf_cons_iff]
        refine ⟨ih hk.1, fun q hq => ?_⟩
        rcases mem_mapSet hq with rfl | hq
        · exact lt_of_le_of_ne (not_lt.1 ‹_›) (Ne.symm ‹_›)
        · exact hk.2 q hq

theorem mapWf_filter (m : List (HostId × α)) (f : HostId × α → Bool) (hw : mapWf m = true) :
    mapWf (m.filter f) = true := by
  induction m with
  | nil => rfl
  | cons p m ih =>
    obtain ⟨k, w⟩ := p
    have hk := (mapWf_cons_iff k w m).1 hw
    rw [List.filter_cons]
    split
    · rw [mapWf_cons_iff]
      exact ⟨ih hk.1, fun q hq => hk.2 q (List.mem_of_mem_filter hq)⟩
    · exact ih hk.1

theorem mapWf_mapErase (m : List (HostId × α)) (h : HostId) (hw : mapWf m = true) :
    mapWf (mapErase m h) = true :=
  mapWf_filter m _ hw

/-- What a map binds is one of its pairs. -/
theorem mem_of_mapGet {m : List (HostId × α)} {h : HostId} {v : α} (hg : mapGet m h = some v) :
    (h, v) ∈ m := by
  induction m with
  | nil => cases hg
  | cons p m ih =>
    obtain ⟨k, w⟩ := p
    rw [mapGet_cons] at hg
    split at hg
    · cases hg; subst_vars; simp
    · exact List.mem_cons_of_mem _ (ih hg)

end Sys2Proof.Machine
end

