-- ==== Sys2Proof/Laws/PerInstr.lean ====
section
/-!
SUPPORT. Laws stated per instruction. `FrameShape`: how many bytes an instruction is on the wire, a 12-byte
header frame (30_encoding.md R51) and, for a data-packet command, a bulk sub-frame of `N + 6` bytes (R52),
and where its code and parameter stand in them (R57, R58).
-/

namespace Sys2Proof.Laws.FrameShape

/-- The length of an instruction's encoding, and its first bytes: the header frame of its command's code
and its parameter, whatever the data. -/
def Statement (i : Instr) : Prop :=
  ∀ cfg : Config,
    (encode cfg i).length = 12 + (match i.data with
      | none => 0
      | some d => d.length + 6) ∧
    (encode cfg i).take 12 = buildCmd cfg (cfg.codeOf i.cmd) i.param

/-- The statement for an instruction without attached data. -/
theorem of_noData {i : Instr} (h : i.data = none) : Statement i := by
  intro cfg
  simp [encode, h, List.take_of_length_le]

/-- The statement for an instruction with attached data. -/
theorem of_data {i : Instr} {d : Bytes} (h : i.data = some d) : Statement i := by
  intro cfg
  refine ⟨by simp [encode, h], ?_⟩
  simp only [encode, h]
  exact List.take_left' (by simp)

theorem openCmd (p : Word32) : Statement (.openCmd p) := of_noData rfl
theorem closeCmd (p : Word32) : Statement (.closeCmd p) := of_noData rfl
theorem changeBaudRate (p : Word32) : Statement (.changeBaudRate p) := of_noData rfl
theorem cmosLed (p : Word32) : Statement (.cmosLed p) := of_noData rfl
theorem getEnrollCount (p : Word32) : Statement (.getEnrollCount p) := of_noData rfl
theorem enrollStart (p : Word32) : Statement (.enrollStart p) := of_noData rfl
theorem enroll1 (p : Word32) : Statement (.enroll1 p) := of_noData rfl
theorem enroll2 (p : Word32) : Statement (.enroll2 p) := of_noData rfl
theorem enroll3 (p : Word32) : Statement (.enroll3 p) := of_noData rfl
theorem isPressFinger (p : Word32) : Statement (.isPressFinger p) := of_noData rfl
theorem deleteId (p : Word32) : Statement (.deleteId p) := of_noData rfl
theorem verify (p : Word32) : Statement (.verify p) := of_noData rfl
theorem identify (p : Word32) : Statement (.identify p) := of_noData rfl
theorem verifyTemplate (p : Word32) (d : Bytes) : Statement (.verifyTemplate p d) := of_data rfl
theorem identifyTemplate (p : Word32) (d : Bytes) : Statement (.identifyTemplate p d) := of_data rfl
theorem captureFinger (p : Word32) : Statement (.captureFinger p) := of_noData rfl
theorem makeTemplate (p : Word32) : Statement (.makeTemplate p) := of_noData rfl
theorem getImage (p : Word32) : Statement (.getImage p) := of_noData rfl
theorem getRawImage (p : Word32) : Statement (.getRawImage p) := of_noData rfl
theorem getTemplate (p : Word32) : Statement (.getTemplate p) := of_noData rfl
theorem setTemplate (p : Word32) (d : Bytes) : Statement (.setTemplate p d) := of_data rfl
theorem setSecurityLevel (p : Word32) : Statement (.setSecurityLevel p) := of_noData rfl
theorem getSecurityLevel (p : Word32) : Statement (.getSecurityLevel p) := of_noData rfl
theorem identifyTemplate2 (p : Word32) (d : Bytes) : Statement (.identifyTemplate2 p d) := of_data rfl
theorem enterStandbyMode (p : Word32) : Statement (.enterStandbyMode p) := of_noData rfl

end Sys2Proof.Laws.FrameShape
end

