-- ==== Sys2Proof/Laws/Run.lean ====
section
/-!
SUPPORT. Runs: a run of `step` is a run of the moves it takes.
-/

namespace Sys2Proof.Machine

/-- The state after the next move is taken off differs in the model's own move fields only. -/
theorem nextMove_snd (s : State) :
    ∃ ms k, (nextMove s).2 = { s with moves := ms, freeMoves := k } := by
  unfold nextMove
  split
  · rename_i m ms h
    exact ⟨ms, s.freeMoves, rfl⟩
  · exact ⟨s.moves, s.freeMoves + 1, rfl⟩

/-- A run of `step` is a run in which each step takes the next move. -/
theorem isRun_of_step {r : Nat → State} (h : ∀ n, step (r n) = .next (r (n + 1))) :
    IsRun (fun n => (nextMove (r n)).1) r := by
  intro n
  obtain ⟨ms, k, e⟩ := nextMove_snd (r n)
  exact ⟨ms, k, by rw [← e]; exact h n⟩

end Sys2Proof.Machine
end

