-- ==== Sys2Proof/Laws/State.lean ====
section
/-!
SUPPORT. What each named update of the state does to each field: one lemma per field per update.
-/

namespace Sys2Proof.Machine
namespace State

section sent
variable (s : State) (b : Bytes)
@[simp] theorem sent_owner : (s.sent b).owner = s.owner := rfl
@[simp] theorem sent_waiters : (s.sent b).waiters = s.waiters := rfl
@[simp] theorem sent_phase : (s.sent b).phase = s.phase := rfl
@[simp] theorem sent_stage : (s.sent b).stage = s.stage := rfl
@[simp] theorem sent_req : (s.sent b).req = s.req := rfl
@[simp] theorem sent_expLen : (s.sent b).expLen = s.expLen := rfl
@[simp] theorem sent_rxbuf : (s.sent b).rxbuf = s.rxbuf := rfl
@[simp] theorem sent_tOrigin : (s.sent b).tOrigin = s.tOrigin := rfl
@[simp] theorem sent_nextPoll : (s.sent b).nextPoll = s.nextPoll := rfl
@[simp] theorem sent_result : (s.sent b).result = s.result := rfl
@[simp] theorem sent_doneFlag : (s.sent b).doneFlag = s.doneFlag := rfl
@[simp] theorem sent_mailbox : (s.sent b).mailbox = s.mailbox := rfl
@[simp] theorem sent_devinfo : (s.sent b).devinfo = s.devinfo := rfl
@[simp] theorem sent_capacity : (s.sent b).capacity = s.capacity := rfl
@[simp] theorem sent_outbound : (s.sent b).outbound = s.outbound ++ b := rfl
@[simp] theorem sent_inbound : (s.sent b).inbound = s.inbound := rfl
@[simp] theorem sent_port : (s.sent b).port = s.port := rfl
@[simp] theorem sent_txAnswer : (s.sent b).txAnswer = s.txAnswer := rfl
@[simp] theorem sent_openAnswer : (s.sent b).openAnswer = s.openAnswer := rfl
@[simp] theorem sent_keepsBytes : (s.sent b).keepsBytes = s.keepsBytes := rfl
@[simp] theorem sent_cfg : (s.sent b).cfg = s.cfg := rfl
@[simp] theorem sent_now : (s.sent b).now = s.now := rfl
@[simp] theorem sent_clients : (s.sent b).clients = s.clients := rfl
@[simp] theorem sent_taken : (s.sent b).taken = s.taken := rfl
@[simp] theorem sent_reply : (s.sent b).reply = s.reply := rfl
@[simp] theorem sent_moves : (s.sent b).moves = s.moves := rfl
@[simp] theorem sent_freeMoves : (s.sent b).freeMoves = s.freeMoves := rfl
@[simp] theorem sent_seqSteps : (s.sent b).seqSteps = s.seqSteps := rfl
end sent

section counted
variable (s : State)
@[simp] theorem counted_owner : (s.counted).owner = s.owner := rfl
@[simp] theorem counted_waiters : (s.counted).waiters = s.waiters := rfl
@[simp] theorem counted_phase : (s.counted).phase = s.phase := rfl
@[simp] theorem counted_stage : (s.counted).stage = s.stage := rfl
@[simp] theorem counted_req : (s.counted).req = s.req := rfl
@[simp] theorem counted_expLen : (s.counted).expLen = s.expLen := rfl
@[simp] theorem counted_rxbuf : (s.counted).rxbuf = s.rxbuf := rfl
@[simp] theorem counted_tOrigin : (s.counted).tOrigin = s.tOrigin := rfl
@[simp] theorem counted_nextPoll : (s.counted).nextPoll = s.nextPoll := rfl
@[simp] theorem counted_result : (s.counted).result = s.result := rfl
@[simp] theorem counted_doneFlag : (s.counted).doneFlag = s.doneFlag := rfl
@[simp] theorem counted_mailbox : (s.counted).mailbox = s.mailbox := rfl
@[simp] theorem counted_devinfo : (s.counted).devinfo = s.devinfo := rfl
@[simp] theorem counted_capacity : (s.counted).capacity = s.capacity := rfl
@[simp] theorem counted_outbound : (s.counted).outbound = s.outbound := rfl
@[simp] theorem counted_inbound : (s.counted).inbound = s.inbound := rfl
@[simp] theorem counted_port : (s.counted).port = s.port := rfl
@[simp] theorem counted_txAnswer : (s.counted).txAnswer = s.txAnswer := rfl
@[simp] theorem counted_openAnswer : (s.counted).openAnswer = s.openAnswer := rfl
@[simp] theorem counted_keepsBytes : (s.counted).keepsBytes = s.keepsBytes := rfl
@[simp] theorem counted_cfg : (s.counted).cfg = s.cfg := rfl
@[simp] theorem counted_now : (s.counted).now = s.now := rfl
@[simp] theorem counted_clients : (s.counted).clients = s.clients := rfl
@[simp] theorem counted_taken : (s.counted).taken = s.taken := rfl
@[simp] theorem counted_reply : (s.counted).reply = s.reply := rfl
@[simp] theorem counted_moves : (s.counted).moves = s.moves := rfl
@[simp] theorem counted_freeMoves : (s.counted).freeMoves = s.freeMoves := rfl
@[simp] theorem counted_seqSteps : (s.counted).seqSteps = s.seqSteps + 1 := rfl
end counted

section deliver
variable (s : State) (h : HostId) (r : Result)
@[simp] theorem deliver_owner : (s.deliver h r).owner = s.owner := rfl
@[simp] theorem deliver_waiters : (s.deliver h r).waiters = s.waiters := rfl
@[simp] theorem deliver_phase : (s.deliver h r).phase = s.phase := rfl
@[simp] theorem deliver_stage : (s.deliver h r).stage = s.stage := rfl
@[simp] theorem deliver_req : (s.deliver h r).req = s.req := rfl
@[simp] theorem deliver_expLen : (s.deliver h r).expLen = s.expLen := rfl
@[simp] theorem deliver_rxbuf : (s.deliver h r).rxbuf = s.rxbuf := rfl
@[simp] theorem deliver_tOrigin : (s.deliver h r).tOrigin = s.tOrigin := rfl
@[simp] theorem deliver_nextPoll : (s.deliver h r).nextPoll = s.nextPoll := rfl
@[simp] theorem deliver_result : (s.deliver h r).result = s.result := rfl
@[simp] theorem deliver_doneFlag : (s.deliver h r).doneFlag = s.doneFlag := rfl
@[simp] theorem deliver_mailbox : (s.deliver h r).mailbox = mapSet s.mailbox h r := rfl
@[simp] theorem deliver_devinfo : (s.deliver h r).devinfo = s.devinfo := rfl
@[simp] theorem deliver_capacity : (s.deliver h r).capacity = s.capacity := rfl
@[simp] theorem deliver_outbound : (s.deliver h r).outbound = s.outbound := rfl
@[simp] theorem deliver_inbound : (s.deliver h r).inbound = s.inbound := rfl
@[simp] theorem deliver_port : (s.deliver h r).port = s.port := rfl
@[simp] theorem deliver_txAnswer : (s.deliver h r).txAnswer = s.txAnswer := rfl
@[simp] theorem deliver_openAnswer : (s.deliver h r).openAnswer = s.openAnswer := rfl
@[simp] theorem deliver_keepsBytes : (s.deliver h r).keepsBytes = s.keepsBytes := rfl
@[simp] theorem deliver_cfg : (s.deliver h r).cfg = s.cfg := rfl
@[simp] theorem deliver_now : (s.deliver h r).now = s.now := rfl
@[simp] theorem deliver_clients : (s.deliver h r).clients = s.clients := rfl
@[simp] theorem deliver_taken : (s.deliver h r).taken = s.taken := rfl
@[simp] theorem deliver_reply : (s.deliver h r).reply = s.reply := rfl
@[simp] theorem deliver_moves : (s.deliver h r).moves = s.moves := rfl
@[simp] theorem deliver_freeMoves : (s.deliver h r).freeMoves = s.freeMoves := rfl
@[simp] theorem deliver_seqSteps : (s.deliver h r).seqSteps = s.seqSteps := rfl
end deliver

section release
variable (s : State)
@[simp] theorem release_owner : (s.release).owner = none := rfl
@[simp] theorem release_waiters : (s.release).waiters = s.waiters := rfl
@[simp] theorem release_phase : (s.release).phase = .idle := rfl
@[simp] theorem release_stage : (s.release).stage = 0 := rfl
@[simp] theorem release_req : (s.release).req = s.req := rfl
@[simp] theorem release_expLen : (s.release).expLen = s.expLen := rfl
@[simp] theorem release_rxbuf : (s.release).rxbuf = s.rxbuf := rfl
@[simp] theorem release_tOrigin : (s.release).tOrigin = s.tOrigin := rfl
@[simp] theorem release_nextPoll : (s.release).nextPoll = s.nextPoll := rfl
@[simp] theorem release_result : (s.release).result = s.result := rfl
@[simp] theorem release_doneFlag : (s.release).doneFlag = true := rfl
@[simp] theorem release_mailbox : (s.release).mailbox = s.mailbox := rfl
@[simp] theorem release_devinfo : (s.release).devinfo = s.devinfo := rfl
@[simp] theorem release_capacity : (s.release).capacity = s.capacity := rfl
@[simp] theorem release_outbound : (s.release).outbound = s.outbound := rfl
@[simp] theorem release_inbound : (s.release).inbound = s.inbound := rfl
@[simp] theorem release_port : (s.release).port = s.port := rfl
@[simp] theorem release_txAnswer : (s.release).txAnswer = s.txAnswer := rfl
@[simp] theorem release_openAnswer : (s.release).openAnswer = s.openAnswer := rfl
@[simp] theorem release_keepsBytes : (s.release).keepsBytes = s.keepsBytes := rfl
@[simp] theorem release_cfg : (s.release).cfg = s.cfg := rfl
@[simp] theorem release_now : (s.release).now = s.now := rfl
@[simp] theorem release_clients : (s.release).clients = s.clients := rfl
@[simp] theorem release_taken : (s.release).taken = s.taken := rfl
@[simp] theorem release_reply : (s.release).reply = s.reply := rfl
@[simp] theorem release_moves : (s.release).moves = s.moves := rfl
@[simp] theorem release_freeMoves : (s.release).freeMoves = s.freeMoves := rfl
@[simp] theorem release_seqSteps : (s.release).seqSteps = s.seqSteps := rfl
end release

section latch
variable (s : State) (h : HostId) (r : Request)
@[simp] theorem latch_owner : (s.latch h r).owner = s.owner := rfl
@[simp] theorem latch_waiters : (s.latch h r).waiters = mapErase s.waiters h := rfl
@[simp] theorem latch_phase : (s.latch h r).phase = s.phase := rfl
@[simp] theorem latch_stage : (s.latch h r).stage = s.stage := rfl
@[simp] theorem latch_req : (s.latch h r).req = r := rfl
@[simp] theorem latch_expLen : (s.latch h r).expLen = s.expLen := rfl
@[simp] theorem latch_rxbuf : (s.latch h r).rxbuf = s.rxbuf := rfl
@[simp] theorem latch_tOrigin : (s.latch h r).tOrigin = s.tOrigin := rfl
@[simp] theorem latch_nextPoll : (s.latch h r).nextPoll = s.nextPoll := rfl
@[simp] theorem latch_result : (s.latch h r).result = s.result := rfl
@[simp] theorem latch_doneFlag : (s.latch h r).doneFlag = s.doneFlag := rfl
@[simp] theorem latch_mailbox : (s.latch h r).mailbox = s.mailbox := rfl
@[simp] theorem latch_devinfo : (s.latch h r).devinfo = s.devinfo := rfl
@[simp] theorem latch_capacity : (s.latch h r).capacity = s.capacity := rfl
@[simp] theorem latch_outbound : (s.latch h r).outbound = s.outbound := rfl
@[simp] theorem latch_inbound : (s.latch h r).inbound = s.inbound := rfl
@[simp] theorem latch_port : (s.latch h r).port = s.port := rfl
@[simp] theorem latch_txAnswer : (s.latch h r).txAnswer = s.txAnswer := rfl
@[simp] theorem latch_openAnswer : (s.latch h r).openAnswer = s.openAnswer := rfl
@[simp] theorem latch_keepsBytes : (s.latch h r).keepsBytes = s.keepsBytes := rfl
@[simp] theorem latch_cfg : (s.latch h r).cfg = s.cfg := rfl
@[simp] theorem latch_now : (s.latch h r).now = s.now := rfl
@[simp] theorem latch_clients : (s.latch h r).clients = s.clients := rfl
@[simp] theorem latch_taken : (s.latch h r).taken = s.taken := rfl
@[simp] theorem latch_reply : (s.latch h r).reply = s.reply := rfl
@[simp] theorem latch_moves : (s.latch h r).moves = s.moves := rfl
@[simp] theorem latch_freeMoves : (s.latch h r).freeMoves = s.freeMoves := rfl
@[simp] theorem latch_seqSteps : (s.latch h r).seqSteps = s.seqSteps := rfl
end latch

section setTask
variable (s : State) (h : HostId) (t : Task)
@[simp] theorem setTask_owner : (s.setTask h t).owner = s.owner := rfl
@[simp] theorem setTask_waiters : (s.setTask h t).waiters = s.waiters := rfl
@[simp] theorem setTask_phase : (s.setTask h t).phase = s.phase := rfl
@[simp] theorem setTask_stage : (s.setTask h t).stage = s.stage := rfl
@[simp] theorem setTask_req : (s.setTask h t).req = s.req := rfl
@[simp] theorem setTask_expLen : (s.setTask h t).expLen = s.expLen := rfl
@[simp] theorem setTask_rxbuf : (s.setTask h t).rxbuf = s.rxbuf := rfl
@[simp] theorem setTask_tOrigin : (s.setTask h t).tOrigin = s.tOrigin := rfl
@[simp] theorem setTask_nextPoll : (s.setTask h t).nextPoll = s.nextPoll := rfl
@[simp] theorem setTask_result : (s.setTask h t).result = s.result := rfl
@[simp] theorem setTask_doneFlag : (s.setTask h t).doneFlag = s.doneFlag := rfl
@[simp] theorem setTask_mailbox : (s.setTask h t).mailbox = s.mailbox := rfl
@[simp] theorem setTask_devinfo : (s.setTask h t).devinfo = s.devinfo := rfl
@[simp] theorem setTask_capacity : (s.setTask h t).capacity = s.capacity := rfl
@[simp] theorem setTask_outbound : (s.setTask h t).outbound = s.outbound := rfl
@[simp] theorem setTask_inbound : (s.setTask h t).inbound = s.inbound := rfl
@[simp] theorem setTask_port : (s.setTask h t).port = s.port := rfl
@[simp] theorem setTask_txAnswer : (s.setTask h t).txAnswer = s.txAnswer := rfl
@[simp] theorem setTask_openAnswer : (s.setTask h t).openAnswer = s.openAnswer := rfl
@[simp] theorem setTask_keepsBytes : (s.setTask h t).keepsBytes = s.keepsBytes := rfl
@[simp] theorem setTask_cfg : (s.setTask h t).cfg = s.cfg := rfl
@[simp] theorem setTask_now : (s.setTask h t).now = s.now := rfl
@[simp] theorem setTask_clients : (s.setTask h t).clients = mapSet s.clients h t := rfl
@[simp] theorem setTask_taken : (s.setTask h t).taken = s.taken := rfl
@[simp] theorem setTask_reply : (s.setTask h t).reply = s.reply := rfl
@[simp] theorem setTask_moves : (s.setTask h t).moves = s.moves := rfl
@[simp] theorem setTask_freeMoves : (s.setTask h t).freeMoves = s.freeMoves := rfl
@[simp] theorem setTask_seqSteps : (s.setTask h t).seqSteps = s.seqSteps := rfl
end setTask

section resetFramer
variable (s : State)
@[simp] theorem resetFramer_toFramer : s.resetFramer.toFramer = Framer.reset s.cfg := rfl
@[simp] theorem resetFramer_toChannel : s.resetFramer.toChannel = s.toChannel := rfl
@[simp] theorem resetFramer_cfg : s.resetFramer.cfg = s.cfg := rfl
@[simp] theorem resetFramer_now : s.resetFramer.now = 0 := rfl
@[simp] theorem resetFramer_clients : s.resetFramer.clients = s.clients := rfl
@[simp] theorem resetFramer_taken : s.resetFramer.taken = s.taken := rfl
@[simp] theorem resetFramer_reply : s.resetFramer.reply = s.reply := rfl
@[simp] theorem resetFramer_moves : s.resetFramer.moves = s.moves := rfl
@[simp] theorem resetFramer_freeMoves : s.resetFramer.freeMoves = s.freeMoves := rfl
@[simp] theorem resetFramer_seqSteps : s.resetFramer.seqSteps = s.seqSteps := rfl

/-- Reset answers a next state at launch only, and leaves the machine as it is there. -/
theorem resetOp_eq_next_iff (t : State) :
    resetOp s = .next t ↔ (s.toFramer = Framer.reset s.cfg ∧ s.now = 0) ∧ t = s := by
  have key : s.toFramer = Framer.reset s.cfg ∧ s.now = 0 → s.resetFramer = s := by
    rintro ⟨hf, hn⟩
    rw [resetFramer, ← hf, ← hn]
  have hl : atLaunch s = true ↔ s.toFramer = Framer.reset s.cfg ∧ s.now = 0 := by
    simp [atLaunch]
  unfold resetOp
  constructor
  · intro h
    split at h
    · cases h
    · split at h
      · rename_i ha
        cases h
        exact ⟨hl.1 ha, key (hl.1 ha)⟩
      · cases h
  · rintro ⟨ha, rfl⟩
    have he : ¬(t.waiters ≠ [] ∨ t.owner ≠ none ∨ t.mailbox ≠ []) := by
      rw [ha.1]; simp [Framer.reset]
    rw [if_neg he, if_pos (hl.2 ha), key ha]
end resetFramer

section deliverOwner
variable (s : State) (r : Result)
/-- With an owner, the result goes to the owner's mailbox. -/
theorem deliverOwner_of_owner {h : HostId} (ho : s.owner = some h) : s.deliverOwner r = s.deliver h r := by
  simp [deliverOwner, ho]

/-- Without an owner, nothing is delivered. -/
theorem deliverOwner_of_free (ho : s.owner = none) : s.deliverOwner r = s := by
  simp [deliverOwner, ho]

@[simp] theorem deliverOwner_owner : (s.deliverOwner r).owner = s.owner := by
  unfold deliverOwner; split <;> rfl
@[simp] theorem deliverOwner_waiters : (s.deliverOwner r).waiters = s.waiters := by
  unfold deliverOwner; split <;> rfl
@[simp] theorem deliverOwner_phase : (s.deliverOwner r).phase = s.phase := by
  unfold deliverOwner; split <;> rfl
@[simp] theorem deliverOwner_stage : (s.deliverOwner r).stage = s.stage := by
  unfold deliverOwner; split <;> rfl
@[simp] theorem deliverOwner_req : (s.deliverOwner r).req = s.req := by
  unfold deliverOwner; split <;> rfl
@[simp] theorem deliverOwner_expLen : (s.deliverOwner r).expLen = s.expLen := by
  unfold deliverOwner; split <;> rfl
@[simp] theorem deliverOwner_rxbuf : (s.deliverOwner r).rxbuf = s.rxbuf := by
  unfold deliverOwner; split <;> rfl
@[simp] theorem deliverOwner_tOrigin : (s.deliverOwner r).tOrigin = s.tOrigin := by
  unfold deliverOwner; split <;> rfl
@[simp] theorem deliverOwner_nextPoll : (s.deliverOwner r).nextPoll = s.nextPoll := by
  unfold deliverOwner; split <;> rfl
@[simp] theorem deliverOwner_result : (s.deliverOwner r).result = s.result := by
  unfold deliverOwner; split <;> rfl
@[simp] theorem deliverOwner_doneFlag : (s.deliverOwner r).doneFlag = s.doneFlag := by
  unfold deliverOwner; split <;> rfl
@[simp] theorem deliverOwner_devinfo : (s.deliverOwner r).devinfo = s.devinfo := by
  unfold deliverOwner; split <;> rfl
@[simp] theorem deliverOwner_capacity : (s.deliverOwner r).capacity = s.capacity := by
  unfold deliverOwner; split <;> rfl
@[simp] theorem deliverOwner_outbound : (s.deliverOwner r).outbound = s.outbound := by
  unfold deliverOwner; split <;> rfl
@[simp] theorem deliverOwner_inbound : (s.deliverOwner r).inbound = s.inbound := by
  unfold deliverOwner; split <;> rfl
@[simp] theorem deliverOwner_port : (s.deliverOwner r).port = s.port := by
  unfold deliverOwner; split <;> rfl
@[simp] theorem deliverOwner_txAnswer : (s.deliverOwner r).txAnswer = s.txAnswer := by
  unfold deliverOwner; split <;> rfl
@[simp] theorem deliverOwner_openAnswer : (s.deliverOwner r).openAnswer = s.openAnswer := by
  unfold deliverOwner; split <;> rfl
@[simp] theorem deliverOwner_keepsBytes : (s.deliverOwner r).keepsBytes = s.keepsBytes := by
  unfold deliverOwner; split <;> rfl
@[simp] theorem deliverOwner_cfg : (s.deliverOwner r).cfg = s.cfg := by
  unfold deliverOwner; split <;> rfl
@[simp] theorem deliverOwner_now : (s.deliverOwner r).now = s.now := by
  unfold deliverOwner; split <;> rfl
@[simp] theorem deliverOwner_clients : (s.deliverOwner r).clients = s.clients := by
  unfold deliverOwner; split <;> rfl
@[simp] theorem deliverOwner_taken : (s.deliverOwner r).taken = s.taken := by
  unfold deliverOwner; split <;> rfl
@[simp] theorem deliverOwner_reply : (s.deliverOwner r).reply = s.reply := by
  unfold deliverOwner; split <;> rfl
@[simp] theorem deliverOwner_moves : (s.deliverOwner r).moves = s.moves := by
  unfold deliverOwner; split <;> rfl
@[simp] theorem deliverOwner_freeMoves : (s.deliverOwner r).freeMoves = s.freeMoves := by
  unfold deliverOwner; split <;> rfl
@[simp] theorem deliverOwner_seqSteps : (s.deliverOwner r).seqSteps = s.seqSteps := by
  unfold deliverOwner; split <;> rfl
end deliverOwner

end State
end Sys2Proof.Machine
end

