-- ==== Sys2Proof/Laws/Sequencer.lean ====
section
/-!
SUPPORT. What the sequencer can do: FINISH as the state of `afterFinish`, and one inversion lemma that says
everything a step of a command can answer.
-/

namespace Sys2Proof.Machine

/-- FINISH while host `h` holds the lock leaves the state of R117, but for the step counter. -/
theorem finish_eq_afterFinish {s : State} {h : HostId} (c : Cmd) (r : Resp) (ovf : Bool)
    (ho : s.owner = some h) : finish c r ovf s.counted = afterFinish c h r ovf s := by
  have hd : devinfoAfter s.cfg c r s.devinfo =
      if c = .openCmd then
        (if classOk s.cfg r .init = true then r.dp.bind decodeInit else s.devinfo)
      else if c = .closeCmd then none else s.devinfo := by
    cases c <;> simp only [devinfoAfter] <;> try rfl
    by_cases hc : classOk s.cfg r .init = true
    · simp only [hc, if_true]
      cases hdp : r.dp with
      | none => simp [classOk, hdp] at hc
      | some d => rfl
    · simp [hc]
  have hst : (s.stage == 2) = decide (s.stage = 2) := rfl
  simp only [finish, State.deliverOwner, State.counted, ho, State.deliver, State.release, resultOf,
    afterFinish, hd, hst]

/-- FINISH as one record update, whoever holds the lock. -/
theorem finish_eq (c : Cmd) (r : Resp) (ovf : Bool) (s : State) :
    finish c r ovf s = { s with
      result := resultOf s.cfg r (classOf s.cfg c) (s.stage == 2) ovf
      devinfo := devinfoAfter s.cfg c r s.devinfo
      mailbox :=
        (match s.owner with
        | some h => mapSet s.mailbox h (resultOf s.cfg r (classOf s.cfg c) (s.stage == 2) ovf)
        | none => s.mailbox)
      owner := none
      phase := .idle
      stage := 0
      doneFlag := true } := by
  cases ho : s.owner <;>
    simp only [finish, State.deliverOwner, ho, State.deliver, State.release]

section finish
variable (c : Cmd) (r : Resp) (ovf : Bool) (s : State)
@[simp] theorem finish_owner : (finish c r ovf s).owner = none := by
  rw [finish_eq]
@[simp] theorem finish_phase : (finish c r ovf s).phase = .idle := by
  rw [finish_eq]
@[simp] theorem finish_stage : (finish c r ovf s).stage = 0 := by
  rw [finish_eq]
@[simp] theorem finish_result : (finish c r ovf s).result =
    resultOf s.cfg r (classOf s.cfg c) (s.stage == 2) ovf := by
  rw [finish_eq]
@[simp] theorem finish_doneFlag : (finish c r ovf s).doneFlag = true := by
  rw [finish_eq]
@[simp] theorem finish_devinfo : (finish c r ovf s).devinfo = devinfoAfter s.cfg c r s.devinfo := by
  rw [finish_eq]
@[simp] theorem finish_waiters : (finish c r ovf s).waiters = s.waiters := by
  rw [finish_eq]
@[simp] theorem finish_req : (finish c r ovf s).req = s.req := by
  rw [finish_eq]
@[simp] theorem finish_expLen : (finish c r ovf s).expLen = s.expLen := by
  rw [finish_eq]
@[simp] theorem finish_rxbuf : (finish c r ovf s).rxbuf = s.rxbuf := by
  rw [finish_eq]
@[simp] theorem finish_tOrigin : (finish c r ovf s).tOrigin = s.tOrigin := by
  rw [finish_eq]
@[simp] theorem finish_nextPoll : (finish c r ovf s).nextPoll = s.nextPoll := by
  rw [finish_eq]
@[simp] theorem finish_capacity : (finish c r ovf s).capacity = s.capacity := by
  rw [finish_eq]
@[simp] theorem finish_outbound : (finish c r ovf s).outbound = s.outbound := by
  rw [finish_eq]
@[simp] theorem finish_inbound : (finish c r ovf s).inbound = s.inbound := by
  rw [finish_eq]
@[simp] theorem finish_port : (finish c r ovf s).port = s.port := by
  rw [finish_eq]
@[simp] theorem finish_txAnswer : (finish c r ovf s).txAnswer = s.txAnswer := by
  rw [finish_eq]
@[simp] theorem finish_openAnswer : (finish c r ovf s).openAnswer = s.openAnswer := by
  rw [finish_eq]
@[simp] theorem finish_keepsBytes : (finish c r ovf s).keepsBytes = s.keepsBytes := by
  rw [finish_eq]
@[simp] theorem finish_cfg : (finish c r ovf s).cfg = s.cfg := by
  rw [finish_eq]
@[simp] theorem finish_now : (finish c r ovf s).now = s.now := by
  rw [finish_eq]
@[simp] theorem finish_clients : (finish c r ovf s).clients = s.clients := by
  rw [finish_eq]
@[simp] theorem finish_taken : (finish c r ovf s).taken = s.taken := by
  rw [finish_eq]
@[simp] theorem finish_reply : (finish c r ovf s).reply = s.reply := by
  rw [finish_eq]
@[simp] theorem finish_moves : (finish c r ovf s).moves = s.moves := by
  rw [finish_eq]
@[simp] theorem finish_freeMoves : (finish c r ovf s).freeMoves = s.freeMoves := by
  rw [finish_eq]
@[simp] theorem finish_seqSteps : (finish c r ovf s).seqSteps = s.seqSteps := by
  rw [finish_eq]
end finish

/-- FINISH, field by field, without an owner: nothing is delivered (no run reaches this). -/
theorem finish_mailbox_of_free {s : State} (c : Cmd) (r : Resp) (ovf : Bool) (ho : s.owner = none) :
    (finish c r ovf s).mailbox = s.mailbox := by
  simp [finish, State.deliverOwner, ho]

/-- Everything a step of command `c` can answer with a next state: it waits, or it takes exactly one of the
sequencer's steps. -/
theorem runCommand_next {c : Cmd} {p : Word32} {d : Option Bytes} {s t : State}
    (h : runCommand c p d s = .next t) :
    t = s
    ∨ (s.phase = .idle ∧ s.owner = none ∧ ∃ o, s.req.host = some o ∧
        t = { s with
          owner := some o
          expLen := predict s.cfg c p
          stage := 1
          doneFlag := false
          inbound := if s.cfg.rxDrainAtStart then [] else s.inbound
          phase := .send
          seqSteps := s.seqSteps + 1 })
    ∨ (s.phase = .send ∧ ∃ f, stageFrame c p d s = some f ∧ txWriteAnswer s = .ok ∧
        t = { s with rxbuf := [], phase := .flush, outbound := s.outbound ++ f,
                     seqSteps := s.seqSteps + 1 })
    ∨ (s.phase = .send ∧ ∃ f k, stageFrame c p d s = some f ∧ txWriteAnswer s = .fail k ∧
        t = finishSynth c false (({ s with rxbuf := [] } : State).sent (f.take k)).counted)
    ∨ (s.phase = .flush ∧ s.txAnswer = .ok ∧
        t = { s with tOrigin := s.now, nextPoll := s.now, phase := .poll, seqSteps := s.seqSteps + 1 })
    ∨ (s.phase = .flush ∧ (∃ k, s.txAnswer = .fail k) ∧ t = finishSynth c false s.counted)
    ∨ (s.phase = .poll ∧ s.cfg.rxBufMax < s.rxbuf.length + s.inbound.length ∧
        t = finishSynth c true ({ s with inbound := [] } : State).counted)
    ∨ (s.phase = .poll ∧ s.rxbuf.length + s.inbound.length ≤ s.cfg.rxBufMax ∧
        t = { s with rxbuf := s.rxbuf ++ s.inbound, inbound := [], phase := .check,
                     seqSteps := s.seqSteps + 1 })
    ∨ (s.phase = .check ∧ s.expLen.toNat ≤ s.rxbuf.length ∧ s.inbound = [] ∧
        ∃ r, parse s.cfg s.rxbuf = some r ∧ s.stage = 1 ∧ d.isSome = true ∧ baseOk s.cfg r = true ∧
        t = { s with stage := 2, phase := .send, seqSteps := s.seqSteps + 1 })
    ∨ (s.phase = .check ∧ s.expLen.toNat ≤ s.rxbuf.length ∧ s.inbound = [] ∧
        ∃ r, parse s.cfg s.rxbuf = some r ∧
        ¬(s.stage = 1 ∧ d.isSome = true ∧ baseOk s.cfg r = true) ∧ t = finish c r false s.counted)
    ∨ (s.phase = .check ∧ ¬(s.expLen.toNat ≤ s.rxbuf.length ∧ s.inbound = []) ∧
        s.tOrigin + s.req.timeoutMs.toNat ≤ s.now ∧ t = finishSynth c false s.counted)
    ∨ (s.phase = .check ∧ ¬(s.expLen.toNat ≤ s.rxbuf.length ∧ s.inbound = []) ∧
        s.now < s.tOrigin + s.req.timeoutMs.toNat ∧
        t = { s with nextPoll := s.nextPoll + s.cfg.pollMs, phase := .wait,
                     seqSteps := s.seqSteps + 1 })
    ∨ (s.phase = .wait ∧ s.nextPoll ≤ s.now ∧
        t = { s with phase := .poll, seqSteps := s.seqSteps + 1 }) := by
  unfold runCommand at h
  split at h <;> rename_i hp
  · unfold grantStep at h
    split at h
    · rename_i o ho hr
      cases h; exact .inr (.inl ⟨hp, ho, o, hr, rfl⟩)
    · cases h; exact .inl rfl
  · unfold sendStep at h
    split at h
    · cases h
    · rename_i f hf
      split at h <;> rename_i ha
      · cases h; exact .inl rfl
      · cases h; exact .inr (.inr (.inl ⟨hp, f, hf, ha, rfl⟩))
      · rename_i k; cases h; exact .inr (.inr (.inr (.inl ⟨hp, f, k, hf, ha, rfl⟩)))
  · unfold flushStep at h
    split at h <;> rename_i ha
    · cases h; exact .inl rfl
    · cases h; iterate 4 apply Or.inr
      exact .inl ⟨hp, ha, rfl⟩
    · rename_i k; cases h; iterate 5 apply Or.inr
      exact .inl ⟨hp, ⟨k, ha⟩, rfl⟩
  · unfold pollStep at h
    split at h
    · cases h; iterate 6 apply Or.inr
      exact .inl ⟨hp, ‹_›, rfl⟩
    · cases h; iterate 7 apply Or.inr
      exact .inl ⟨hp, by omega, rfl⟩
  · unfold checkStep at h
    split at h
    · rename_i hc
      unfold stageEnd at h
      split at h
      · cases h
      · rename_i r hr
        split at h
        · rename_i hq; cases h; iterate 8 apply Or.inr
          exact .inl ⟨hp, hc.1, hc.2, r, hr, hq.1, hq.2.1, hq.2.2, rfl⟩
        · rename_i hq; cases h; iterate 9 apply Or.inr
          exact .inl ⟨hp, hc.1, hc.2, r, hr, hq, rfl⟩
    · rename_i hc
      split at h
      · cases h; iterate 10 apply Or.inr
        exact .inl ⟨hp, hc, ‹_›, rfl⟩
      · cases h; iterate 11 apply Or.inr
        exact .inl ⟨hp, hc, by omega, rfl⟩
  · unfold waitStep at h
    split at h
    · cases h; iterate 12 apply Or.inr
      exact ⟨hp, ‹_›, rfl⟩
    · cases h; exact .inl rfl

end Sys2Proof.Machine
end

