-- ==== Sys2Proof/Tests/Slice0.lean ====
section
/-!
SUPPORT. The model's own tests. Decoding tests use the frames that 45_commands.md writes out; values of the
pure functions and of the registers come from 95_test_vectors.md. The theorems `witness_<name>` show, for
each obligation with hypotheses, a concrete state and operands that meet them together.
-/

namespace Sys2Proof.Tests
open Sys2Proof.Machine

/-! ### Decoding: one frame per command, from the spec's examples -/

set_option maxRecDepth 8000

/-- 41_frame_serializer.md R80: data of `n` zero bytes. -/
def zeros (n : Nat) : Bytes := List.replicate n 0

/-- 30_encoding.md R52, 45_commands.md R150: the bulk sub-frame of `n` zero bytes, written out. -/
def zeroPacket (n : Nat) : Bytes := [0x5A, 0xA5, 0x01, 0x00] ++ zeros n ++ [0x00, 0x01]

/-- R129, its example. -/
theorem test_decode_openCmd : decode Config.default
    [0x55, 0xAA, 0x01, 0x00, 0x01, 0x00, 0x00, 0x00, 0x01, 0x00, 0x02, 0x01]
      = .ok (.openCmd 1) := by decide

/-- R130, its example. -/
theorem test_decode_closeCmd : decode Config.default
    [0x55, 0xAA, 0x01, 0x00, 0x00, 0x00, 0x00, 0x00, 0x02, 0x00, 0x02, 0x01]
      = .ok (.closeCmd 0) := by decide

/-- R131, its example. -/
theorem test_decode_changeBaudRate : decode Config.default
    [0x55, 0xAA, 0x01, 0x00, 0x00, 0xC2, 0x01, 0x00, 0x04, 0x00, 0xC7, 0x01]
      = .ok (.changeBaudRate 115200) := by decide

/-- R132, its example. -/
theorem test_decode_cmosLed : decode Config.default
    [0x55, 0xAA, 0x01, 0x00, 0x01, 0x00, 0x00, 0x00, 0x12, 0x00, 0x13, 0x01]
      = .ok (.cmosLed 1) := by decide

/-- R133, its example. -/
theorem test_decode_getEnrollCount : decode Config.default
    [0x55, 0xAA, 0x01, 0x00, 0x00, 0x00, 0x00, 0x00, 0x20, 0x00, 0x20, 0x01]
      = .ok (.getEnrollCount 0) := by decide

/-- R134, its example. -/
theorem test_decode_enrollStart : decode Config.default
    [0x55, 0xAA, 0x01, 0x00, 0x05, 0x00, 0x00, 0x00, 0x22, 0x00, 0x27, 0x01]
      = .ok (.enrollStart 5) := by decide

/-- R135, its example. -/
theorem test_decode_enroll1 : decode Config.default
    [0x55, 0xAA, 0x01, 0x00, 0x05, 0x00, 0x00, 0x00, 0x23, 0x00, 0x28, 0x01]
      = .ok (.enroll1 5) := by decide

/-- R136, its example. -/
theorem test_decode_enroll2 : decode Config.default
    [0x55, 0xAA, 0x01, 0x00, 0x05, 0x00, 0x00, 0x00, 0x24, 0x00, 0x29, 0x01]
      = .ok (.enroll2 5) := by decide

/-- R137, its example. -/
theorem test_decode_enroll3 : decode Config.default
    [0x55, 0xAA, 0x01, 0x00, 0xFF, 0xFF, 0xFF, 0xFF, 0x25, 0x00, 0x21, 0x05]
      = .ok (.enroll3 (-1)) := by decide

/-- R138, its example. -/
theorem test_decode_isPressFinger : decode Config.default
    [0x55, 0xAA, 0x01, 0x00, 0x00, 0x00, 0x00, 0x00, 0x26, 0x00, 0x26, 0x01]
      = .ok (.isPressFinger 0) := by decide

/-- R139, its example. -/
theorem test_decode_deleteId : decode Config.default
    [0x55, 0xAA, 0x01, 0x00, 0x05, 0x00, 0x00, 0x00, 0x40, 0x00, 0x45, 0x01]
      = .ok (.deleteId 5) := by decide

/-- R140, its example. -/
theorem test_decode_verify : decode Config.default
    [0x55, 0xAA, 0x01, 0x00, 0x05, 0x00, 0x00, 0x00, 0x50, 0x00, 0x55, 0x01]
      = .ok (.verify 5) := by decide

/-- R141, its example. -/
theorem test_decode_identify : decode Config.default
    [0x55, 0xAA, 0x01, 0x00, 0x00, 0x00, 0x00, 0x00, 0x51, 0x00, 0x51, 0x01]
      = .ok (.identify 0) := by decide

/-- R142, its example. -/
theorem test_decode_verifyTemplate : decode Config.default
    ([0x55, 0xAA, 0x01, 0x00, 0x05, 0x00, 0x00, 0x00, 0x52, 0x00, 0x57, 0x01]
      ++ zeroPacket 498) = .ok (.verifyTemplate 5 (zeros 498)) := by decide

/-- R143, its example. -/
theorem test_decode_identifyTemplate : decode Config.default
    ([0x55, 0xAA, 0x01, 0x00, 0x00, 0x00, 0x00, 0x00, 0x53, 0x00, 0x53, 0x01]
      ++ zeroPacket 498) = .ok (.identifyTemplate 0 (zeros 498)) := by decide

/-- R145, its example. -/
theorem test_decode_captureFinger : decode Config.default
    [0x55, 0xAA, 0x01, 0x00, 0x01, 0x00, 0x00, 0x00, 0x60, 0x00, 0x61, 0x01]
      = .ok (.captureFinger 1) := by decide

/-- R146, its example. -/
theorem test_decode_makeTemplate : decode Config.default
    [0x55, 0xAA, 0x01, 0x00, 0x00, 0x00, 0x00, 0x00, 0x61, 0x00, 0x61, 0x01]
      = .ok (.makeTemplate 0) := by decide

/-- R147, its example. -/
theorem test_decode_getImage : decode Config.default
    [0x55, 0xAA, 0x01, 0x00, 0x00, 0x00, 0x00, 0x00, 0x62, 0x00, 0x62, 0x01]
      = .ok (.getImage 0) := by decide

/-- R148, its example. -/
theorem test_decode_getRawImage : decode Config.default
    [0x55, 0xAA, 0x01, 0x00, 0x00, 0x00, 0x00, 0x00, 0x63, 0x00, 0x63, 0x01]
      = .ok (.getRawImage 0) := by decide

/-- R149, its example. -/
theorem test_decode_getTemplate : decode Config.default
    [0x55, 0xAA, 0x01, 0x00, 0x05, 0x00, 0x00, 0x00, 0x70, 0x00, 0x75, 0x01]
      = .ok (.getTemplate 5) := by decide

/-- R150, its example. -/
theorem test_decode_setTemplate : decode Config.default
    ([0x55, 0xAA, 0x01, 0x00, 0x05, 0x00, 0x00, 0x00, 0x71, 0x00, 0x76, 0x01]
      ++ zeroPacket 498) = .ok (.setTemplate 5 (zeros 498)) := by decide

/-- R151, its example. -/
theorem test_decode_setSecurityLevel : decode Config.default
    [0x55, 0xAA, 0x01, 0x00, 0x03, 0x00, 0x00, 0x00, 0xF0, 0x00, 0xF3, 0x01]
      = .ok (.setSecurityLevel 3) := by decide

/-- R152, its example. -/
theorem test_decode_getSecurityLevel : decode Config.default
    [0x55, 0xAA, 0x01, 0x00, 0x00, 0x00, 0x00, 0x00, 0xF1, 0x00, 0xF1, 0x01]
      = .ok (.getSecurityLevel 0) := by decide

/-- R144, its example. -/
theorem test_decode_identifyTemplate2 : decode Config.default
    ([0x55, 0xAA, 0x01, 0x00, 0x00, 0x00, 0x00, 0x00, 0xF4, 0x00, 0xF4, 0x01]
      ++ zeroPacket 500) = .ok (.identifyTemplate2 0 (zeros 500)) := by decide

/-- R153, its example. -/
theorem test_decode_enterStandbyMode : decode Config.default
    [0x55, 0xAA, 0x01, 0x00, 0x00, 0x00, 0x00, 0x00, 0xF9, 0x00, 0xF9, 0x01]
      = .ok (.enterStandbyMode 0) := by decide

/-! ### Well-formedness and rejections -/

/-- R80: 497 bytes are too few for VerifyTemplate. -/
theorem test_wf_refuses_verifyTemplate : (Instr.verifyTemplate 5 (zeros 497)).wellFormed = false := by
  decide

/-- R80: 500 bytes are IdentifyTemplate2's length, not IdentifyTemplate's. -/
theorem test_wf_refuses_identifyTemplate : (Instr.identifyTemplate 0 (zeros 500)).wellFormed = false := by
  decide

/-- 95_test_vectors.md L1.3: 499 bytes are refused for SetTemplate. -/
theorem test_wf_refuses_setTemplate : (Instr.setTemplate 0 (zeros 499)).wellFormed = false := by decide

/-- R81: IdentifyTemplate2 rejects 498 bytes. -/
theorem test_wf_refuses_identifyTemplate2 : (Instr.identifyTemplate2 0 (zeros 498)).wellFormed = false := by
  decide

/-- R81: the accepted lengths. -/
theorem test_wf_accepts : (Instr.setTemplate 0 (zeros 498)).wellFormed = true ∧
    (Instr.identifyTemplate2 0 (zeros 500)).wellFormed = true ∧
    (Instr.closeCmd 0).wellFormed = true := by decide

/-- 91 N3: a configuration in which two commands share a code is ill formed. -/
theorem test_wf_refuses_shared_code :
    Config.wf { Config.default with cmdCode := { closeCmd := 0x0001 } } = false := by decide

/-- R6: a configuration that departs from a row marked "source" is ill formed. -/
theorem test_wf_refuses_other_header : Config.wf { Config.default with hdrStart := (0x55, 0xAB) } = false := by
  decide

/-- The default configuration is well formed. -/
theorem default_wf : Config.default.wf = true := by decide

/-- Bytes that are no command frame are rejected by name: too short, wrong start code, wrong device id, bad
checksum, a code outside the map (R63), missing data (R82), unexpected data (R82). -/
theorem test_decode_rejects :
    decode Config.default [0x55, 0xAA] = .error .shortHeader ∧
    decode Config.default [0xAA, 0x55, 1, 0, 0, 0, 0, 0, 2, 0, 2, 1] = .error .headerStart ∧
    decode Config.default [0x55, 0xAA, 2, 0, 0, 0, 0, 0, 2, 0, 3, 1] = .error .headerDeviceId ∧
    decode Config.default [0x55, 0xAA, 1, 0, 0, 0, 0, 0, 2, 0, 3, 1] = .error .headerChecksum ∧
    decode Config.default [0x55, 0xAA, 1, 0, 0, 0, 0, 0, 3, 0, 3, 1] = .error (.rejected .unknownCode) ∧
    decode Config.default [0x55, 0xAA, 1, 0, 0, 0, 0, 0, 0x71, 0, 0x71, 1]
      = .error (.rejected .dataMissing) ∧
    decode Config.default ([0x55, 0xAA, 1, 0, 0, 0, 0, 0, 2, 0, 2, 1] ++ zeroPacket 1)
      = .error (.rejected .dataUnexpected) ∧
    decode Config.default ([0x55, 0xAA, 1, 0, 0, 0, 0, 0, 0x71, 0, 0x71, 1] ++ zeroPacket 3)
      = .error (.rejected .dataLength) := by decide

/-- R81: the serializer with data, its rejections and the frames' lengths. -/
theorem test_buildCmdWithData :
    buildCmdWithData Config.default 0x0002 0 [] = .error .dataUnexpected ∧
    buildCmdWithData Config.default 0x0071 0 (zeros 497) = .error .dataLength ∧
    (buildCmdWithData Config.default 0x0071 0 (zeros 498)).map (fun f => (f.1.length, f.2.length))
      = .ok (12, 504) := by decide

/-- spec/opcode_table.json: the words of Open, IdentifyTemplate2, and of no command. -/
theorem test_decodeTableWord : decodeTableWord 16 0x0001 = some (.openCmd 0) ∧
    decodeTableWord 16 0x00F4 = some (.identifyTemplate2 0 (zeros 500)) ∧
    decodeTableWord 16 0x0099 = none := by decide

/-! ### Pure functions, with the values of 95_test_vectors.md L1 and L2 -/

/-- L1.1 and L2.1. -/
theorem test_checksum :
    chk16 [0x55, 0xAA, 1, 0, 1, 0, 0, 0, 1, 0] 0 9 = some 0x0102 ∧
    chk16 ([0x5A, 0xA5, 1, 0] ++ List.replicate 498 0xFF) 0 501 = some 0xF10E ∧
    chk16 [1, 2] 0 (-1) = none ∧ chk16 [1, 2] 0 2 = none ∧
    valid16 [0x55, 0xAA, 1, 0, 1, 0, 0, 0, 0x30, 0, 0x30, 1] 0 11 = some false ∧
    valid16 [1, 1, 0] 0 2 = some true ∧ valid16 [1, 0] 0 1 = some false ∧
    valid16 [7] 0 0 = some false := by decide

/-- L2.1. -/
theorem test_codecs : le32 115200 = [0x00, 0xC2, 0x01, 0x00] ∧ le32 (-1) = [0xFF, 0xFF, 0xFF, 0xFF] ∧
    le16 0x0130 = [0x30, 0x01] ∧ u16le [0x30, 0x01] 0 = some 0x0130 ∧
    i32le [0x00, 0x10, 0x00, 0x00] 0 = some 0x1000 ∧ u16le (zeros 12) 11 = none := by decide

/-- L2.4. -/
theorem test_predict :
    predict Config.default .openCmd 0 = 12 ∧ predict Config.default .openCmd (-1) = 42 ∧
    predict Config.default .enroll3 (-1) = 516 ∧ predict Config.default .enroll3 (-2) = 12 ∧
    predict Config.default .enroll2 (-1) = 12 ∧ predict Config.default .getImage 0 = 52134 ∧
    predict Config.default .getRawImage 7 = 19218 ∧ predict Config.default .setTemplate 0 = 12 := by
  decide

/-- An acknowledgement with parameter 0 (L1.4). -/
def ack : Bytes := [0x55, 0xAA, 0x01, 0x00, 0x00, 0x00, 0x00, 0x00, 0x30, 0x00, 0x30, 0x01]

/-- A refusal that names user 5 (L1.4). -/
def nack5 : Bytes := [0x55, 0xAA, 0x01, 0x00, 0x05, 0x00, 0x00, 0x00, 0x31, 0x00, 0x36, 0x01]

/-- The 42-byte Open reply of L2.3 row 22. -/
def openReply : Bytes :=
  ack ++ [0x5A, 0xA5, 0x01, 0x00, 0x12, 0x34, 0x56, 0x78, 0x00, 0x04, 0x00, 0x00]
    ++ [0x01, 0x02, 0x03, 0x04, 0x05, 0x06, 0x07, 0x08]
    ++ [0x09, 0x0A, 0x0B, 0x0C, 0x0D, 0x0E, 0x0F, 0x10, 0xA0, 0x02]

/-- The kind and value a reply gives under a class. -/
def kindOfReply (raw : Bytes) (cls : RespClass) : Option (ErrKind × Word32) :=
  (parse Config.default raw).map fun r => kindOf Config.default r cls

/-- L1.4: the checksum wins over the parameter, and the parameter names the conflicting user. -/
theorem test_classification :
    kindOfReply ack .basic = some (.noError, 0) ∧ kindOfReply nack5 .basic = some (.duplicate, 5) ∧
    kindOfReply [0x55, 0xAA, 1, 0, 5, 0, 0, 0, 0x31, 0, 0x37, 1] .basic = some (.invalidChecksum, 0) ∧
    kindOfReply openReply .init = some (.noError, 0) := by decide

/-- L1.9: the device information of the Open reply, and its texts. -/
theorem test_device_information :
    (((parse Config.default openReply).bind (·.dp)).bind decodeInit).map
      (fun d => (d.fw, d.iso, String.ofList (fwText .upper d), String.ofList (serialText .upper d)))
      = some (0x78563412, 1024, "78563412", "0102030405060708-090A0B0C0D0E0F10") := by decide

/-! ### Steps -/

/-- A machine in which host 0 runs instruction `i`, at a phase and a stage, the channel open. -/
def running (i : Instr) (ph : Phase) (st : Fin 3) : State :=
  { State.reset with
    port := some 115200
    owner := some 0
    phase := ph
    stage := st
    req := { code := Config.default.codeOf i.cmd, param := i.param, data := i.data, timeoutMs := 1000,
             host := some 0 }
    expLen := predict Config.default i.cmd i.param }

/-- The same with bytes received. -/
def received (i : Instr) (ph : Phase) (st : Fin 3) (b : Bytes) : State :=
  { running i ph st with rxbuf := b }

/-- A machine in which host `h` waits with the request of instruction `i`, the lock free. -/
def waiting (h : HostId) (i : Instr) : State :=
  { State.reset with
    port := some 115200
    waiters := [(h, { code := Config.default.codeOf i.cmd, param := i.param, data := i.data,
                      timeoutMs := 1000, host := some h })] }

/-- A field of the next state, if there is one. -/
def fieldOf {α : Type} (f : State → α) (r : StepResult) : Option α :=
  match r with
  | .next t => some (f t)
  | .fault _ => none
  | .refused _ => none

/-- 95_test_vectors.md, register encodings: STATUS after a finished step. -/
theorem test_status_after_finish :
    fieldOf (readRegister · 0) (step { received (.cmosLed 1) .check 1 ack with moves := [.seq] })
      = some 0x1E ∧
    fieldOf (readRegister · 0) (step { received (.openCmd 1) .check 1 openReply with moves := [.seq] })
      = some 0x87E ∧
    fieldOf (readRegister · 0) (step { received (.deleteId 5) .check 1 nack5 with moves := [.seq] })
      = some 0x12 ∧
    fieldOf (readRegister · 0)
      (step { received (.setTemplate 5 (zeros 498)) .check 2 ack with moves := [.seq] }) = some 0x41E := by
  decide

/-- L2.5 S1 and S5: a time-out is COMMUNICATION, 0x1006, with no bytes received. -/
theorem test_time_out :
    fieldOf (fun t => (readRegister t 0, readRegister t 9, readRegister t 10, readRegister t 6))
      (step { running (.verify 5) .check 1 with now := 1000, moves := [.seq] })
      = some (0x92, 4, 0x1006, 0) := by decide

/-- L2.5 S11: 20 bytes into a buffer of 16 overflow. -/
theorem test_overflow :
    fieldOf (readRegister · 0)
      (step { running (.verify 5) .poll 1 with
        cfg := { Config.default with rxBufMax := 16 }, inbound := zeros 20, moves := [.seq] })
      = some 0x8092 := by decide

/-- L2.5 S15: a write to a closed channel. -/
theorem test_write_to_closed_channel :
    fieldOf (fun t => (readRegister t 0, t.outbound))
      (step { running (.identify 0) .send 1 with port := none, moves := [.seq] }) = some (0x92, []) := by
  decide

/-- L2.5 S22: cancelling stage 2 of SetTemplate. -/
theorem test_cancel_stage_two :
    fieldOf (readRegister · 0)
      (step { running (.setTemplate 5 (zeros 498)) .wait 2 with moves := [.cancel 0] }) = some 0x502 := by
  decide

/-- L1.9, L3 P1: the device-information registers after an Open. -/
theorem test_device_registers :
    fieldOf (fun t => (readRegister t 11, readRegister t 12, readRegister t 13, readRegister t 16))
      (step { received (.openCmd 1) .check 1 openReply with moves := [.seq] })
      = some (0x78563412, 1024, 0x04030201, 0x100F0E0D) := by decide

/-- L1.6: capacity, and the enrollment of user 200 and of user 199. -/
theorem test_capacity : readRegister State.reset 17 = 199 ∧
    beginOp Config.default 199 0 (.enroll 1 200) = .finished (.result argumentResult) ∧
    beginOp Config.default 199 0 (.enroll 1 199)
      = .submit .enrollStart 199 none 1000 (.enrollStartReply .enroll1 199) ∧
    beginOp Config.default 199 0 (.enroll 4 5) = .finished (.result argumentResult) := by decide

/-- The first step after reset runs the instruction of a table word: Open with parameter 0 predicts 12. -/
theorem test_first_step : fieldOf (fun t => (t.phase, t.expLen, t.owner))
    (step (State.reset.withFetchWord 16 0x0001)) = some (.send, 12, some 0) := by decide

/-! ### Witnesses: states and operands that meet each obligation's hypotheses -/

/-- The parts of the invariant, as one Bool. -/
def invB (s : State) : Bool :=
  s.cfg.wf && mapsOk s && runningOk s && waitersOk s && resultOk s && devinfoOk s
    && decide (s.rxbuf.length ≤ s.cfg.rxBufMax) && s.capacity == s.cfg.capacity

theorem inv_of {s : State} (h : invB s = true) : Inv s := by
  simp only [invB, Bool.and_eq_true, decide_eq_true_eq, beq_iff_eq] at h
  obtain ⟨⟨⟨⟨⟨⟨⟨h1, h2⟩, h3⟩, h4⟩, h5⟩, h6⟩, h7⟩, h8⟩ := h
  exact ⟨h1, h2, h3, h4, h5, h6, h7, h8⟩

/-- The invariant holds at reset, in a running, a waiting and a finishing state. -/
theorem witness_Inv : Inv State.reset ∧ Inv (running (.setTemplate 5 (zeros 498)) .wait 2) ∧
    Inv (waiting 3 (.openCmd 1)) ∧ Inv (received (.openCmd 1) .check 1 openReply) :=
  ⟨inv_of (by decide), inv_of (by decide), inv_of (by decide), inv_of (by decide)⟩

/-- An index range at both boundaries, and just outside. -/
theorem witness_ChecksumIsByteSum : ((0 : Int) ≤ 0 ∧ (0 : Int) ≤ 11 ∧ (11 : Int) < ack.length) ∧
    ¬((0 : Int) ≤ 0 ∧ (0 : Int) ≤ 12 ∧ (12 : Int) < ack.length) := by decide

theorem witness_ChecksumRoundTrip : 3 ≤ [1, 1, (0 : Byte)].length ∧
    ([7].length = 1 ∨ [(7 : Byte)].length = 2) ∧ ([7, 0].length = 1 ∨ [7, (0 : Byte)].length = 2) ∧
    1 ≤ [(7 : Byte)].length := by decide

theorem witness_CoveredByteChangeDetected : 3 ≤ ack.length ∧ 9 < ack.length - 2 ∧
    ack[9]? ≠ some 1 ∧ valid16 ack 0 (ack.length - 1) = some true := by decide

/-- The hypothesis of FrameLayouts, PredictedLengths, ReplyFramesParseBack and
ResetMeetsInvariant. -/
theorem witness_well_formed_configuration :
    Config.default.wf = true ∧ Config.wf { Config.default with rxBufMax := 16 } = true := by decide

theorem witness_DecodeOfEncode : Config.default.wf = true ∧
    (Instr.enroll3 (-1)).wellFormed = true ∧ (Instr.identifyTemplate2 0 (zeros 500)).wellFormed = true := by
  decide

theorem witness_WireAndRequestDecodersAgree : Config.default.wf = true ∧
    decodeRequest Config.default 0x0002 7 none = .ok (.closeCmd 7) ∧
    decodeRequest Config.default 0x0071 5 (some (zeros 498)) = .ok (.setTemplate 5 (zeros 498)) := by decide

/-- A code outside the map, and a code and data for each clause. -/
theorem witness_ConstructionCheckOrder : Config.default.wf = true ∧
    (∀ c ∈ Cmd.all, Config.default.codeOf c ≠ 0x0099) ∧
    Config.default.codeOf .setTemplate = 0x0071 ∧ dpOutLen .setTemplate = some 498 ∧
    Config.default.codeOf .closeCmd = 0x0002 ∧ dpOutLen .closeCmd = none := by decide

/-- Lengths at the boundaries 12, 13, 17 and 18. -/
theorem witness_ParsedFields : Config.default.wf = true ∧ ack.length = 12 ∧
    (12 < (ack ++ [0]).length ∧ (ack ++ [0]).length < 18) ∧
    (12 < (ack ++ zeros 5).length ∧ (ack ++ zeros 5).length < 18) ∧ 18 ≤ (ack ++ zeros 6).length := by
  decide

theorem witness_StartCodesNotCompared : Config.default.wf = true ∧
    sum16 [0x55, 0xAA, 0x01, 0x00] = sum16 [0xAA, 0x55, 0x00, 0x01] ∧ 8 ≤ (zeros 8).length ∧
    ack.length = 12 := by decide

/-- A response with a parameter: header valid or not, synthesized or not. -/
def respOf (p : Word32) (code : Word16) (hdrOk synth : Bool) : Resp :=
  { raw := [], param := p, code, hdrOk, dp := none, dpOk := false, synth }

/-- One response for each clause, with the parameter at the boundaries 0, 0x1000, 0x1001 and -1. -/
theorem witness_ErrorKindPriority : Config.default.wf = true ∧
    (respOf 5 0x31 false false).ckOk = false ∧
    ((respOf 0 0x31 true false).ckOk = true ∧ 0 ≤ (0 : Word32).toInt ∧ (0 : Word32).toInt < 0x1001) ∧
    (0 ≤ (0x1000 : Word32).toInt ∧ (0x1000 : Word32).toInt < 0x1001) ∧
    (0x1001 ≤ (0x1001 : Word32).toInt) ∧ (-1 : Word32).toInt < 0 ∧
    (respOf 0x1006 0x31 true true).synth = true ∧
    classOk Config.default (respOf 0 0x30 true false) .basic = true ∧
    classOk Config.default (respOf 0 0x31 true false) .basic = false ∧
    classOk Config.default (respOf 0 0x30 false false) .basic = false := by decide

/-- A configuration without and one with a fast-search command, and a host that took a response without a
data packet. -/
theorem witness_ClassSuccessAndValue : Config.default.fastSearchCmd = none ∧
    Config.fastSearchCmd { Config.default with fastSearchCmd := some .verify } = some .verify ∧
    (mapGet [(4, resultOf Config.default (respOf 0 0x31 true false) .image false false)] 4).bind (·.resp)
      = some (respOf 0 0x31 true false) ∧ (respOf 0 0x31 true false).dp = none := by decide

theorem witness_InitClassSuccess :
    ((parse Config.default openReply).map fun r =>
      (classOk Config.default r .init, (r.dp.map List.length).getD 0)) = some (true, 24) ∧
    classOk Config.default (respOf 0 0x30 true false) .init = false ∧
    (decodeInit (zeros 24)).isSome = true := by decide

/-- A free lock with a latched request. -/
def latched (i : Instr) : State := { running i .idle 0 with owner := none }

theorem witness_CommandStarts : (latched (.openCmd 1)).phase = .idle ∧
    (latched (.openCmd 1)).owner = none ∧ (latched (.openCmd 1)).req.host = some 0 := by decide

theorem witness_GrantPicksWaiter : Inv (waiting 3 (.openCmd 1)) ∧
    (waiting 3 (.openCmd 1)).owner = none ∧ (mapGet (waiting 3 (.openCmd 1)).waiters 3).isSome = true :=
  ⟨inv_of (by decide), by decide, by decide⟩

theorem witness_StageOneSendsHeader : (running (.openCmd 1) .send 1).phase = .send ∧
    (running (.openCmd 1) .send 1).stage = 1 ∧ (running (.openCmd 1) .send 1).port ≠ none ∧
    (running (.openCmd 1) .send 1).txAnswer = .ok := by decide

theorem witness_StageTwoSendsDataPacket :
    (Instr.setTemplate 5 (zeros 498)).data = some (zeros 498) ∧
    (running (.setTemplate 5 (zeros 498)) .send 2).phase = .send ∧
    (running (.setTemplate 5 (zeros 498)) .send 2).stage = 2 ∧
    (running (.setTemplate 5 (zeros 498)) .send 2).port ≠ none ∧
    (running (.setTemplate 5 (zeros 498)) .send 2).txAnswer = .ok := by decide

/-- The owner at SEND in stage 1 and in stage 2; the three answers: pending, failed, closed. -/
theorem witness_UnfinishedAndFailedWrites :
    (running (.verify 5) .send 1).owner = some 0 ∧ (running (.verify 5) .send 1).stage = 1 ∧
    (running (.setTemplate 5 (zeros 498)) .send 2).stage = 2 ∧
    (({ running (.verify 5) .send 1 with txAnswer := .pending } : State).txAnswer = .pending) ∧
    (({ running (.verify 5) .send 1 with txAnswer := .fail 3 } : State).txAnswer = .fail 3) ∧
    (running (.verify 5) .send 1).port ≠ none ∧
    (({ running (.verify 5) .send 1 with port := none } : State).port = none) := by decide

theorem witness_FlushStartsTimers : (running (.verify 5) .flush 1).phase = .flush ∧
    (running (.verify 5) .flush 1).owner = some 0 ∧ (running (.verify 5) .flush 1).txAnswer = .ok ∧
    (({ running (.verify 5) .flush 1 with txAnswer := .fail 0 } : State).txAnswer = .fail 0) ∧
    (({ running (.verify 5) .flush 1 with txAnswer := .pending } : State).txAnswer = .pending) := by decide

/-- A buffer of 16 at POLL, with 16 bytes held and with 17. -/
def polling (n : Nat) : State :=
  { running (.verify 5) .poll 1 with cfg := { Config.default with rxBufMax := 16 }, inbound := zeros n }

theorem witness_PollTakesHeldBytes : (polling 16).phase = .poll ∧ (polling 16).owner = some 0 ∧
    (polling 16).rxbuf.length + (polling 16).inbound.length ≤ (polling 16).cfg.rxBufMax ∧
    (polling 17).cfg.rxBufMax < (polling 17).rxbuf.length + (polling 17).inbound.length := by decide

/-- Eleven bytes of twelve, and twelve with one more held; at the time-out instant and just before. -/
theorem witness_IncompleteReplyTimesOutOrWaits :
    (received (.verify 5) .check 1 (zeros 11)).rxbuf.length < (running (.verify 5) .check 1).expLen.toNat ∧
    (({ received (.verify 5) .check 1 ack with inbound := [0x5A] } : State).inbound ≠ []) ∧
    (running (.verify 5) .check 1).phase = .check ∧ (running (.verify 5) .check 1).owner = some 0 ∧
    (running (.verify 5) .check 1).tOrigin + (running (.verify 5) .check 1).req.timeoutMs.toNat = 1000 := by
  decide

theorem witness_WaitEndsWhenDue : (running (.verify 5) .wait 1).phase = .wait ∧
    (running (.verify 5) .wait 1).nextPoll ≤ (running (.verify 5) .wait 1).now ∧
    ({ running (.verify 5) .wait 1 with nextPoll := 1 } : State).now
      < ({ running (.verify 5) .wait 1 with nextPoll := 1 } : State).nextPoll := by decide

/-- The hypotheses of the three STAGE_END statements on one complete reply `b`. -/
def completeB (i : Instr) (st : Fin 3) (b : Bytes) : Bool :=
  let s := received i .check st b
  s.phase == .check && s.owner == some 0 && decide (s.expLen.toNat ≤ s.rxbuf.length) && s.inbound == []
    && (parse s.cfg s.rxbuf).isSome

theorem witness_SingleStageReplyFinishes : completeB (.openCmd 1) 1 openReply = true ∧
    completeB (.closeCmd 0) 1 nack5 = true ∧ (Instr.openCmd 1).data = none := by decide

theorem witness_SuccessfulStageOneStartsStageTwo :
    completeB (.setTemplate 5 (zeros 498)) 1 ack = true ∧
    (parse Config.default ack).map (baseOk Config.default) = some true := by decide

theorem witness_TwoStageFinalReplyFinishes :
    completeB (.setTemplate 5 (zeros 498)) 2 ack = true ∧
    completeB (.setTemplate 5 (zeros 498)) 1 nack5 = true ∧
    (parse Config.default nack5).map (baseOk Config.default) = some false := by decide

/-- An Open that sets the device information, an Open that does not, and a Close. -/
theorem witness_OpenSetsCloseClearsDeviceInfo :
    fieldOf (fun t => (t.owner.isSome, t.devinfo.isSome))
      (exec (.openCmd 1) (received (.openCmd 1) .check 1 openReply)) = some (false, true) ∧
    fieldOf (fun t => (t.owner.isSome, t.devinfo.isSome))
      (exec (.openCmd 0) (received (.openCmd 0) .check 1 ack)) = some (false, false) ∧
    fieldOf (fun t => t.owner.isSome) (exec (.closeCmd 0) (received (.closeCmd 0) .check 1 nack5))
      = some false := by decide

/-- A next state from each phase. -/
theorem witness_ExecFrame : ∀ ph ∈ [Phase.send, .flush, .poll, .check, .wait],
    (fieldOf (fun _ => true) (exec (.verify 5) (running (.verify 5) ph 1))) = some true := by decide

theorem witness_RunningCommandAnswersNext : Inv (running (.verify 5) .wait 1) ∧
    (running (.verify 5) .wait 1).phase ≠ .idle ∧
    instrOf (running (.verify 5) .wait 1).cfg (running (.verify 5) .wait 1).req = .ok (.verify 5) :=
  ⟨inv_of (by decide), by decide, by decide⟩

/-- A host with nothing outstanding and a request that passes or fails its check; a host that waits, one
that owns the lock, one whose mailbox is full. -/
theorem witness_SubmitJoinsOrRejects : mapGet State.reset.waiters 0 = none ∧
    State.reset.owner ≠ some 0 ∧ mapGet State.reset.mailbox 0 = none ∧
    checkRequest Config.default 0x0002 none = .noReject ∧
    checkRequest Config.default 0x0099 none ≠ .noReject ∧
    (mapGet (waiting 3 (.openCmd 1)).waiters 3).isSome = true ∧
    (running (.verify 5) .wait 1).owner = some 0 ∧
    (mapGet [(2, cancelledResult false)] 2).isSome = true := by decide

theorem witness_CancelAbandonsRunning : (running (.verify 5) .wait 1).owner = some 0 ∧
    (running (.verify 5) .wait 1).phase ≠ .idle ∧
    State.reset.owner ≠ some 7 ∧ mapGet State.reset.waiters 7 = none := by decide

theorem witness_CancelRemovesWaiting : (waiting 3 (.openCmd 1)).owner ≠ some 3 ∧
    (mapGet (waiting 3 (.openCmd 1)).waiters 3).isSome = true := by decide

theorem witness_TakeDeliversMailbox :
    mapGet (({ State.reset with mailbox := [(2, cancelledResult false)] } : State).mailbox) 2
      = some (cancelledResult false) ∧ mapGet State.reset.mailbox 2 = none := by decide

/-- DONE = 1 after a finished step, with a response and without. -/
theorem witness_StatusLayout :
    fieldOf (fun t => (t.doneFlag, t.result.resp.isSome))
      (exec (.verify 5) (received (.verify 5) .check 1 ack)) = some (true, true) ∧
    (cancelOp 0 (running (.verify 5) .wait 1)).doneFlag = true ∧
    (cancelOp 0 (running (.verify 5) .wait 1)).result.resp = none := by decide

/-- The invariant with DONE = 1 and with DONE = 0. -/
theorem witness_ErrorRegisterKinds : Inv (cancelOp 0 (running (.verify 5) .wait 1)) ∧
    (cancelOp 0 (running (.verify 5) .wait 1)).doneFlag = true ∧ State.reset.doneFlag = false :=
  ⟨inv_of (by decide), by decide, by decide⟩

theorem witness_DeviceInfoRegisters : ((openReply.drop 16).take 24).length = 24 ∧
    fieldOf (·.devinfo) (exec (.openCmd 1) (received (.openCmd 1) .check 1 openReply))
      = some (decodeInit ((openReply.drop 16).take 24)) ∧ State.reset.devinfo = none := by decide

/-- Data and none, an owner and none, register 19. -/
theorem witness_SequencerRegisters : (running (.verify 5) .wait 1).req.data = none ∧
    (running (.setTemplate 5 (zeros 498)) .wait 1).req.data = some (zeros 498) ∧
    (running (.verify 5) .wait 1).owner = some 0 ∧ State.reset.owner = none ∧ 19 ≤ 19 := by decide

/-- Next states from the invariant: of a sequencer's step, of a grant, of a cancellation. -/
theorem witness_StepKeepsInvariant :
    Inv { received (.openCmd 1) .check 1 openReply with moves := [.seq] } ∧
    fieldOf (fun _ => true) (step { received (.openCmd 1) .check 1 openReply with moves := [.seq] })
      = some true :=
  ⟨inv_of (by decide), by decide⟩

theorem witness_CapacityIsConstant : Inv { State.reset with moves := [.tick] } ∧
    fieldOf (·.now) (step { State.reset with moves := [.tick] }) = some 1 :=
  ⟨inv_of (by decide), by decide⟩

theorem witness_StepKeepsPollGrid :
    Inv { running (.verify 5) .wait 1 with tOrigin := 5, nextPoll := 25, now := 25, moves := [.seq] } ∧
    pollGrid { running (.verify 5) .wait 1 with tOrigin := 5, nextPoll := 25, now := 25, moves := [.seq] } ∧
    fieldOf (·.phase) (step { running (.verify 5) .wait 1 with
      tOrigin := 5, nextPoll := 25, now := 25, moves := [.seq] }) = some .poll :=
  ⟨inv_of (by decide), fun _ => ⟨by decide, 2, by decide⟩, by decide⟩

/-- The fault and the three refusals are reached. -/
theorem witness_StepFaultsOnlyOnAbsentImage :
    (step { State.reset with
      taken := [(0, resultOf Config.default (respOf 0 0x31 true false) .image false false)]
      moves := [.readValue 0 .image] } matches .fault .imageValueAbsent) = true ∧
    (step { running (.verify 5) .wait 1 with moves := [.submit 0 2 0 none 5] }
      matches .refused .submitWhileOutstanding) = true ∧
    (step { running (.verify 5) .wait 1 with moves := [.reset] }
      matches .refused .resetWhileOutstanding) = true ∧
    (step { State.reset with doneFlag := true, moves := [.reset] }
      matches .refused .resetAfterLaunch) = true ∧
    (step { State.reset with now := 1, moves := [.reset] }
      matches .refused .resetAfterLaunch) = true := by decide

/-- The lock is set by a grant, and cleared by a finish and by a cancellation. -/
theorem witness_LockDiscipline : Inv (waiting 3 (.openCmd 1)) ∧
    fieldOf (·.owner) (perform (.grant 3) (waiting 3 (.openCmd 1))) = some (some 3) ∧
    fieldOf (·.owner) (perform .seq (received (.verify 5) .check 1 ack)) = some none ∧
    fieldOf (·.owner) (perform (.cancel 0) (running (.verify 5) .wait 1)) = some none :=
  ⟨inv_of (by decide), by decide, by decide, by decide⟩

/-- A draining configuration with one stale byte held, and a channel that drops the byte it holds. -/
def draining : State :=
  { waiting 3 (.openCmd 1) with
    cfg := { Config.default with rxDrainAtStart := true }, inbound := [7] }

/-- See `draining`; hosts 1 and 2 have a task that opens and one that closes the port. -/
def dropping : State :=
  { State.reset with
    inbound := [7]
    keepsBytes := false
    clients := [(1, .portOpen 9600 .probeOpened), (2, .portClose .sessionClosed)] }

/-- Bytes are sent by a SEND, and taken by a POLL, by a draining GRANT, and by an open or a close that drops
them, as a host's move and as its client step; each from a state of the invariant. -/
theorem witness_ChannelAccessNeedsLock :
    Inv (running (.verify 5) .send 1) ∧ Inv (polling 16) ∧ Inv draining ∧ Inv dropping ∧
    fieldOf (·.outbound.length) (perform .seq (running (.verify 5) .send 1)) = some 12 ∧
    fieldOf (·.inbound) (perform .seq (polling 16)) = some [] ∧
    fieldOf (·.inbound) (perform (.grant 3) draining) = some [] ∧
    (∀ m ∈ [Move.portOpen 0 9600, .portClose 0, .client 1, .client 2],
      fieldOf (·.inbound) (perform m dropping) = some []) :=
  ⟨inv_of (by decide), inv_of (by decide), inv_of (by decide), inv_of (by decide), by decide, by decide,
    by decide, by decide⟩

/-- A host about to finish a Close, with device information held. -/
def closing : State :=
  { received (.closeCmd 0) .check 1 ack with
    devinfo := some { fw := 1, iso := 2, serial := zeros 16 } }

/-- The device information is set by an Open's finish and cleared by a Close's. -/
theorem witness_DeviceInfoSingleWriter :
    Inv (received (.openCmd 1) .check 1 openReply) ∧ Inv closing ∧
    fieldOf (·.devinfo.isSome) (perform .seq (received (.openCmd 1) .check 1 openReply)) = some true ∧
    fieldOf (·.devinfo.isSome) (perform .seq closing) = some false :=
  ⟨inv_of (by decide), inv_of (by decide), by decide, by decide⟩

theorem witness_StepRunsDecodedInstruction :
    (running (.verify 5) .wait 1).phase ≠ .idle ∧
    instrOf Config.default (running (.verify 5) .wait 1).req = .ok (.verify 5) ∧
    (waiting 3 (.openCmd 1)).owner = none ∧ (waiting 3 (.openCmd 1)).phase = .idle ∧
    (mapGet (waiting 3 (.openCmd 1)).waiters 3).map (instrOf Config.default) = some (.ok (.openCmd 1)) ∧
    State.reset.moves = [] := by decide

/-- A host submits Close and is served. -/
def serving : State :=
  { State.reset with
    port := some 115200
    moves := [.submit 0 0x0002 0 none 1000, .grant 0, .seq, .seq, .device ack, .seq, .seq] }

theorem witness_OneStageTransactionDelivers : Inv serving ∧ serving.owner = none ∧
    mapGet serving.waiters 0 = none ∧ mapGet serving.mailbox 0 = none ∧ dpOutLen .closeCmd = none ∧
    serving.port ≠ none ∧ serving.txAnswer = .ok ∧ serving.inbound = [] ∧
    (predict serving.cfg .closeCmd 0).toNat ≤ ack.length ∧ ack.length ≤ serving.cfg.rxBufMax ∧
    serving.moves = [.submit 0 (serving.cfg.codeOf .closeCmd) 0 none 1000, .grant 0, .seq, .seq,
      .device ack, .seq, .seq] ++ [] :=
  ⟨inv_of (by decide), by decide, by decide, by decide, by decide, by decide, by decide, by decide,
    by decide, by decide, by decide⟩

theorem witness_EagerScheduleReachesFinish : Inv (running (.verify 5) .wait 1) ∧
    (running (.verify 5) .wait 1).owner = some 0 ∧ (running (.verify 5) .wait 1).txAnswer ≠ .pending :=
  ⟨inv_of (by decide), by decide, by decide⟩

/-- The state a step answers, or the state before it. -/
def after (m : Move) (s : State) : State :=
  match perform m s with
  | .next t => t
  | _ => s

/-- Host 3's Open is granted, and fails at its SEND since the channel is closed. -/
def granted : State := after (.grant 3) { waiting 3 (.openCmd 1) with port := none }

/-- See `granted`. -/
def failed : State := after .seq granted

/-- A run: the GRANT, the failing SEND, and from then on the time base alone. -/
def fairMoves : Nat → Move
  | 0 => .grant 3
  | 1 => .seq
  | _ + 2 => .tick

/-- The states of that run. -/
def fairStates : Nat → State
  | 0 => { waiting 3 (.openCmd 1) with port := none }
  | 1 => granted
  | n + 2 => { failed with now := failed.now + n }

/-- The lock is free and no host waits in every later state. -/
theorem fairStates_idle (n : Nat) : (fairStates (n + 2)).waiters = [] ∧
    (fairStates (n + 2)).owner = none ∧ (fairStates (n + 2)).phase = .idle := by
  have h : failed.waiters = [] ∧ failed.owner = none ∧ failed.phase = .idle := by decide
  exact h

/-- A weakly fair run with a fair choice, a waiter at 0 and a transaction at 1 that does not hang. -/
theorem witness_FairRunFinishesAndGrants :
    IsRun fairMoves fairStates ∧ Inv (fairStates 0) ∧ WeaklyFair fairMoves fairStates ∧
    FairGrant fairMoves fairStates ∧ (fairStates 1).owner = some 3 ∧
    (mapGet (fairStates 0).waiters 3).isSome = true ∧ ∀ n h, ¬Hangs fairStates n h := by
  refine ⟨?_, inv_of (by decide), ⟨fun n => ⟨n + 2, by omega, rfl⟩, fun n hen => ?_⟩, fun _ h n => ?_,
    by decide, by decide, fun n h hh => ?_⟩
  · rintro (_ | _ | n)
    · exact ⟨_, _, rfl⟩
    · exact ⟨_, _, rfl⟩
    · exact ⟨_, _, rfl⟩
  · obtain ⟨hw, -, hp⟩ := fairStates_idle n
    have := hen (n + 2) (by omega)
    simp [sequencerEnabled, grantEnabled, seqEnabled, hw, hp] at this
  · exact ⟨n + 2, by omega, by rw [(fairStates_idle n).1]; rfl⟩
  · have := hh.1 (n + 2) (by omega)
    rw [(fairStates_idle n).2.1] at this
    cases this

/-- Reset at launch, with a waiter, with an owner, after a transaction, and after a millisecond; an open that succeeds and one
that fails. -/
theorem witness_EnvironmentMovesAndReset :
    (State.reset.toFramer = (State.resetWith State.reset.cfg).toFramer ∧ State.reset.now = 0) ∧
    (tickOp State.reset).now ≠ 0 ∧
    (waiting 3 (.openCmd 1)).waiters ≠ [] ∧ (running (.verify 5) .wait 1).owner ≠ none ∧
    ((cancelOp 7 State.reset).waiters = [] ∧
      ({ State.reset with doneFlag := true } : State).toFramer ≠ (State.resetWith Config.default).toFramer) ∧
    State.reset.openAnswer = true ∧ ({ State.reset with openAnswer := false } : State).openAnswer = false := by
  decide

/-- An idle host; arguments at both ends of each range and just outside; a host with a TXN to submit. -/
theorem witness_ClientArgumentChecks : clientIdle State.reset 0 = true ∧
    ((-2 : Word32).toInt < -1 ∧ State.reset.capacity.toInt < (200 : Word32).toInt ∧
      (-1 : Word32).toInt < 0 ∧ (0 : Word32).toInt < Config.default.secLevelMin.toInt ∧
      Config.default.secLevelMax.toInt < (6 : Word32).toInt) ∧
    (¬(-1 : Word32).toInt < -1 ∧ ¬State.reset.capacity.toInt < (199 : Word32).toInt ∧
      ¬(0 : Word32).toInt < 0 ∧ ¬(1 : Word32).toInt < Config.default.secLevelMin.toInt ∧
      ¬Config.default.secLevelMax.toInt < (5 : Word32).toInt) ∧
    ((4 : Int) ≠ 1 ∧ (4 : Int) ≠ 2 ∧ (4 : Int) ≠ 3) ∧
    (-1 ≤ (199 : Word32).toInt ∧ (199 : Word32).toInt ≤ State.reset.capacity.toInt) ∧
    clientIdle { State.reset with clients := [(0, .submit .closeCmd 0 none 1000 .closeReply)] } 0 = false ∧
    mapGet [(0, Task.submit .closeCmd 0 none 1000 .closeReply)] 0
      = some (.submit .closeCmd 0 none 1000 .closeReply) := by decide

/-- A client step that submits a TXN: the host waits with its request and will TAKE next. -/
theorem test_client_submits : fieldOf (fun t => (mapGet t.clients 0, (mapGet t.waiters 0).map (·.code)))
    (perform (.client 0) { State.reset with
      clients := [(0, .submit .closeCmd 0 none 1000 .closeReply)] })
    = some (some (.take .closeReply), some 0x0002) := by decide

/-- A host that waits for a finger, its query's result delivered. -/
def fingerWaiting : State :=
  { State.reset with
    clients := [(0, .take (.fingerReply { action := .place, timeoutMs := 50, t0 := 0, after := .ret })),
      (1, .delay 10 .probeSettled), (2, .delay 0 .probeSettled), (3, .take .command)]
    mailbox := [(0, resultOf Config.default (respOf 1 0x30 true false) .basic false false)] }

/-- A TAKE with a result and one without, a delay that has passed and one that has not, an idle host. -/
theorem witness_FingerWaitDecides : clientIdle fingerWaiting 9 = true ∧
    mapGet fingerWaiting.clients 0
      = some (.take (.fingerReply { action := .place, timeoutMs := 50, t0 := 0, after := .ret })) ∧
    (mapGet fingerWaiting.mailbox 0).isSome = true ∧
    mapGet fingerWaiting.clients 3 = some (.take .command) ∧ mapGet fingerWaiting.mailbox 3 = none ∧
    mapGet fingerWaiting.clients 1 = some (.delay 10 .probeSettled) ∧ fingerWaiting.now < 10 ∧
    mapGet fingerWaiting.clients 2 = some (.delay 0 .probeSettled) ∧ 0 ≤ fingerWaiting.now := by decide

/-- L1.8, schedule A: a query that finds no finger at `now = 0` of a wait of 50 ms delays 10 ms. -/
theorem test_finger_wait : fieldOf (fun t => mapGet t.clients 0) (perform (.client 0) fingerWaiting)
    = some (some (.delay 10
      (.fingerAgain { action := .place, timeoutMs := 50, t0 := 0, after := .ret }))) := by decide

/-- A result with a response that is base- and class-successful, one that is neither, one with none. -/
theorem witness_CaptureAndEnrollSequence :
    0x1001 ≤ Config.default.errFingerNotPressed.toInt ∧ Config.default.wf = true ∧
    (resultOf Config.default (respOf 0 0x30 true false) .basic false false).classOk = true ∧
    (resultOf Config.default (respOf 0 0x30 true false) .basic false false).baseOk = true ∧
    (resultOf Config.default (respOf 0 0x31 true false) .basic false false).classOk = false ∧
    (resultOf Config.default (respOf 0 0x31 true false) .basic false false).baseOk = false ∧
    (resultOf Config.default (respOf 0 0x31 true false) .basic false false).resp
      = some (respOf 0 0x31 true false) ∧
    classOk Config.default (respOf 0 0x30 true false) .basic = true ∧
    classOk Config.default (respOf 0 0x31 true false) .basic = false ∧
    (cancelledResult false).resp = none := by decide

/-- A host about to open a port that will not open, or will, or to close it; both relations of the two rates; a COMMUNICATION result
and a refused one. -/
theorem witness_SessionOpenCloseSequence : clientIdle State.reset 0 = true ∧
    mapGet [(0, Task.portOpen 9600 .probeOpened)] 0 = some (Task.portOpen 9600 .probeOpened) ∧
    ({ State.reset with openAnswer := false } : State).openAnswer = false ∧
    dropping.openAnswer = true ∧ mapGet dropping.clients 1 = some (.portOpen 9600 .probeOpened) ∧
    mapGet dropping.clients 2 = some (.portClose .sessionClosed) ∧
    Config.default.probeBaud ≠ Config.default.targetBaud ∧
    Config.probeBaud { Config.default with probeBaud := 115200 }
      = Config.targetBaud { Config.default with probeBaud := 115200 } ∧
    (resultOf Config.default (synth Config.default) .basic false false).kind = .communication ∧
    (resultOf Config.default (respOf 5 0x31 true false) .basic false false).kind ≠ .communication ∧
    (resultOf Config.default (respOf 5 0x31 true false) .basic false false).baseOk = false := by decide

end Sys2Proof.Tests
end

section
/-!
SUPPORT. The lock (10_state.md R14): which moves can change its holder. Each agent's operation has its
inversion or its frame here; the sequencer's steps go through `runCommand_next`.
-/

namespace Sys2Proof.Machine

/-! ### What the invariant says about the lock -/

/-- The phase is IDLE exactly while the lock is free (R16). -/
theorem Inv.owner_eq_none_iff {s : State} (hi : Inv s) : s.owner = none ↔ s.phase = .idle := by
  have hr := hi.running
  cases ho : s.owner <;> simp_all [runningOk]

/-- A running transaction has an owner (R14, R16). -/
theorem Inv.exists_owner {s : State} (hi : Inv s) (hp : s.phase ≠ .idle) : ∃ h, s.owner = some h :=
  Option.ne_none_iff_exists'.mp (mt hi.owner_eq_none_iff.mp hp)

/-- A waiting request is its host's own, and CHECK_REQUEST passes it (R15, R18). -/
theorem Inv.waiter_request {s : State} {h : HostId} {r : Request} (hi : Inv s)
    (hw : mapGet s.waiters h = some r) :
    r.host = some h ∧ checkRequest s.cfg r.code r.data = .noReject := by
  have hall := List.all_eq_true.mp hi.waiters _ (mem_of_mapGet hw)
  simp only [requestOk, Bool.and_eq_true, beq_iff_eq] at hall
  obtain ⟨⟨hreq, -⟩, -⟩ := hall
  exact hreq

/-! ### The host port, the client tasks and the environment -/

section hostPort
variable {s t : State} {h : HostId}

/-- Everything SUBMIT can answer with a next state (R107): the request joins the waiters, or it is
rejected into the host's mailbox. -/
theorem submitOp_next {code : Word16} {param : Word32} {data : Option Bytes}
    {timeoutMs : Word32} (hn : submitOp h code param data timeoutMs s = .next t) :
    outstanding s h = false ∧
    ((checkRequest s.cfg code data = .noReject ∧
        t = { s with
          mailbox := mapErase s.mailbox h
          waiters := mapSet s.waiters h { code, param, data, timeoutMs, host := some h } }) ∨
      (checkRequest s.cfg code data ≠ .noReject ∧
        t = s.deliver h (rejectedResult (checkRequest s.cfg code data)))) := by
  unfold submitOp at hn
  split at hn
  · cases hn
  · rename_i hout
    refine ⟨by simpa using hout, ?_⟩
    split at hn
    · rename_i hck
      cases hn; exact .inl ⟨hck, rfl⟩
    · rename_i hck
      cases hn; exact .inr ⟨hck, rfl⟩

/-- SUBMIT leaves the lock alone. -/
theorem submitOp_owner {code : Word16} {param : Word32} {data : Option Bytes}
    {timeoutMs : Word32} (hn : submitOp h code param data timeoutMs s = .next t) :
    t.owner = s.owner := by
  obtain ⟨-, ⟨-, rfl⟩ | ⟨-, rfl⟩⟩ := submitOp_next hn <;> rfl

/-- CANCEL by the host whose transaction runs abandons it (R119). -/
theorem cancelOp_of_running (ho : s.owner = some h) (hp : s.phase ≠ .idle) :
    cancelOp h s = (State.deliver
      { s with result := cancelledResult (s.stage == 2), rxbuf := [] } h
      (cancelledResult (s.stage == 2))).release := by
  simp [cancelOp, ho, hp]

/-- CANCEL by any other host leaves the lock alone (R118, R120). -/
theorem cancelOp_owner_of_not_running (hr : ¬(s.owner = some h ∧ s.phase ≠ .idle)) :
    (cancelOp h s).owner = s.owner := by
  unfold cancelOp
  rw [if_neg hr]
  split <;> rfl

@[simp] theorem takeOp_owner : (takeOp h s).owner = s.owner := by
  unfold takeOp
  split <;> rfl

/-- Reading VALUE changes at most the reply record (R95). -/
theorem readValueOp_next {cls : RespClass} (hn : readValueOp h cls s = .next t) :
    t = s ∨ ∃ v, t = { s with reply := some (.value h v) } := by
  unfold readValueOp at hn
  split at hn
  · split at hn
    · rename_i v _
      cases hn; exact .inr ⟨v, rfl⟩
    · cases hn
  · cases hn; exact .inl rfl

@[simp] theorem portOpenOp_owner (baud : Word32) : (portOpenOp baud s).owner = s.owner := by
  unfold portOpenOp
  split <;> rfl

@[simp] theorem startOp_owner (op : ClientOp) : (startOp h op s).owner = s.owner := by
  unfold startOp
  split <;> rfl

/-- A client step leaves the lock alone: it is a host-port or port operation, or it waits. -/
theorem clientOp_owner (hn : clientOp h s = .next t) : t.owner = s.owner := by
  unfold clientOp at hn
  split at hn
  · cases hn; rfl -- no task
  · cases hn; rfl -- a finished task
  · simpa using submitOp_owner hn -- SUBMIT
  · split at hn <;> cases hn <;> simp -- TAKE
  · split at hn <;> cases hn <;> rfl -- a delay
  · split at hn <;> cases hn <;> simp -- PORT_OPEN
  · cases hn; rfl -- PORT_CLOSE

end hostPort

/-- Every move but GRANT, the sequencer's step and CANCEL leaves the lock alone (R14). -/
theorem perform_owner_of_other {m : Move} {s t : State} (hgrant : ∀ h, m ≠ .grant h) (hseq : m ≠ .seq)
    (hcancel : ∀ h, m ≠ .cancel h) (hn : perform m s = .next t) : t.owner = s.owner := by
  cases m with
  | grant h => exact absurd rfl (hgrant h)
  | seq => exact absurd rfl hseq
  | cancel h => exact absurd rfl (hcancel h)
  | submit h code param data timeoutMs => exact submitOp_owner hn
  | client h => exact clientOp_owner hn
  | readValue h cls => obtain rfl | ⟨v, rfl⟩ := readValueOp_next hn <;> rfl
  | reset => rw [((State.resetOp_eq_next_iff s t).mp hn).2]
  | take h => cases hn; simp
  | start h op => cases hn; simp
  | portOpen h baud => cases hn; simp
  | readReg | portClose | channel | device | tick => cases hn; rfl

/-! ### The sequencer -/

/-- Running the latched request is a step of the command it decodes to. -/
theorem runReq_next {s t : State} (hn : runReq s = .next t) :
    ∃ i, instrOf s.cfg s.req = .ok i ∧ runCommand i.cmd i.param i.data s = .next t := by
  unfold runReq at hn
  split at hn
  · rename_i i hi
    exact ⟨i, hi, exec_eq_runCommand i s ▸ hn⟩
  · cases hn

/-- A step in IDLE waits, or it takes the lock for the latched request's host (R109). -/
theorem runCommand_owner_of_idle {c : Cmd} {p : Word32} {d : Option Bytes} {s t : State}
    (hp : s.phase = .idle) (hn : runCommand c p d s = .next t) :
    t = s ∨ (s.owner = none ∧ t.owner = s.req.host ∧ t.waiters = s.waiters) := by
  simp only [runCommand, hp, grantStep] at hn
  split at hn
  · rename_i ho hr
    cases hn; exact .inr ⟨ho, hr.symm, rfl⟩
  · cases hn; exact .inl rfl

/-- A step outside IDLE keeps the lock, or it is FINISH in a state with the same holder (R110 to R117). -/
theorem runCommand_keepsOwner_or_finishes {c : Cmd} {p : Word32} {d : Option Bytes} {s t : State}
    (hp : s.phase ≠ .idle) (hn : runCommand c p d s = .next t) :
    t.owner = s.owner ∨ ∃ r ovf u, t = finish c r ovf u ∧ u.owner = s.owner := by
  rcases runCommand_next hn with rfl | ⟨hidle, -⟩ | ⟨-, f, -, -, rfl⟩ | ⟨-, f, k, -, -, rfl⟩ |
    ⟨-, -, rfl⟩ | ⟨-, -, rfl⟩ | ⟨-, -, rfl⟩ | ⟨-, -, rfl⟩ | ⟨-, -, -, r, -, -, -, -, rfl⟩ |
    ⟨-, -, -, r, -, -, rfl⟩ | ⟨-, -, -, rfl⟩ | ⟨-, -, -, rfl⟩ | ⟨-, -, rfl⟩
  · exact .inl rfl -- it waits
  · exact absurd hidle hp
  · exact .inl rfl -- SEND succeeds
  · exact .inr ⟨_, _, _, rfl, rfl⟩ -- SEND fails
  · exact .inl rfl -- FLUSH succeeds
  · exact .inr ⟨_, _, _, rfl, rfl⟩ -- FLUSH fails
  · exact .inr ⟨_, _, _, rfl, rfl⟩ -- POLL overflows
  · exact .inl rfl -- POLL reads
  · exact .inl rfl -- CHECK starts stage 2
  · exact .inr ⟨_, _, _, rfl, rfl⟩ -- CHECK ends the transaction
  · exact .inr ⟨_, _, _, rfl, rfl⟩ -- CHECK times out
  · exact .inl rfl -- CHECK schedules the next attempt
  · exact .inl rfl -- WAIT ends

/-- FINISH puts the result into its owner's mailbox (R117). -/
theorem finish_mailbox_of_owner {s : State} {h : HostId} (c : Cmd) (r : Resp) (ovf : Bool)
    (ho : s.owner = some h) :
    mapGet (finish c r ovf s).mailbox h = some (finish c r ovf s).result := by
  simp [finish_eq, ho]

/-! ### The three moves that can change the lock's holder -/

/-- A GRANT move waits, or it runs the latched request of a waiter on the free lock (R109). -/
theorem grantMove_next {h : HostId} {s t : State} (hn : grantMove h s = .next t) :
    t = s ∨ (s.owner = none ∧ s.phase = .idle ∧
      ∃ r, mapGet s.waiters h = some r ∧ runReq (s.latch h r) = .next t) := by
  unfold grantMove at hn
  split at hn
  · rename_i r ho hp hw
    exact .inr ⟨ho, hp, r, hw, hn⟩
  · cases hn; exact .inl rfl

/-- A GRANT that changes the lock's holder gives the free lock to its waiter, who waits no longer. -/
theorem grantMove_takesLock {h : HostId} {s t : State} (hi : Inv s) (hn : grantMove h s = .next t)
    (hne : t.owner ≠ s.owner) :
    s.owner = none ∧ t.owner = some h ∧ mapGet s.waiters h ≠ none ∧ mapGet t.waiters h = none := by
  obtain rfl | ⟨ho, hp, r, hw, hrun⟩ := grantMove_next hn
  · exact absurd rfl hne
  obtain ⟨i, -, hcmd⟩ := runReq_next hrun
  obtain rfl | ⟨-, hto, htw⟩ := runCommand_owner_of_idle (s := s.latch h r) hp hcmd
  · exact absurd rfl hne
  have hhost : r.host = some h := (hi.waiter_request hw).1
  exact ⟨ho, by simp [hto, hhost], by simp [hw], by simp [htw]⟩

/-- A sequencer step that changes the lock's holder is FINISH: it frees the lock and its holder's mailbox
holds the result. -/
theorem seqMove_releasesLock {s t : State} (hi : Inv s) (hn : seqMove s = .next t)
    (hne : t.owner ≠ s.owner) :
    t.owner = none ∧ ∃ h, s.owner = some h ∧ mapGet t.mailbox h = some t.result ∧
      t.doneFlag = true ∧ t.phase = .idle ∧ t.stage = 0 := by
  by_cases hp : s.phase = .idle
  · simp only [seqMove, hp] at hn
    cases hn; exact absurd rfl hne
  rw [seqMove_of_running hp] at hn
  obtain ⟨i, -, hcmd⟩ := runReq_next hn
  obtain hkeep | ⟨r, ovf, u, rfl, hu⟩ := runCommand_keepsOwner_or_finishes hp hcmd
  · exact absurd hkeep hne
  obtain ⟨h, ho⟩ := hi.exists_owner hp
  exact ⟨by simp, h, ho, finish_mailbox_of_owner _ _ _ (hu.trans ho), by simp, by simp, by simp⟩

/-- A CANCEL that changes the lock's holder is the holder's own: it frees the lock and the holder's mailbox
holds the result (R119). -/
theorem cancelOp_releasesLock {h : HostId} {s : State} (hne : (cancelOp h s).owner ≠ s.owner) :
    s.owner = some h ∧ (cancelOp h s).owner = none ∧
      mapGet (cancelOp h s).mailbox h = some (cancelOp h s).result ∧ (cancelOp h s).doneFlag = true ∧
      (cancelOp h s).phase = .idle ∧ (cancelOp h s).stage = 0 := by
  by_cases hr : s.owner = some h ∧ s.phase ≠ .idle
  · obtain ⟨ho, hp⟩ := hr
    simp [cancelOp_of_running ho hp, ho]
  · exact absurd (cancelOp_owner_of_not_running hr) hne

end Sys2Proof.Machine

namespace Sys2Proof.Proofs
open Sys2Proof.Machine

/-- Settles O49: every move but GRANT, the sequencer's step and CANCEL leaves the lock alone, and each of
these three changes its holder in one way only. -/
theorem lockDiscipline : Obligations.LockDiscipline := by
  unfold Obligations.LockDiscipline
  intro m s t hi hn hne
  by_cases hgrant : ∃ h, m = .grant h
  · obtain ⟨h, rfl⟩ := hgrant
    obtain ⟨hfree, hlock⟩ := grantMove_takesLock hi hn hne
    exact .inl ⟨hfree, h, rfl, hlock⟩
  by_cases hseq : m = .seq
  · subst hseq
    obtain ⟨hfree, h, ho, hdone⟩ := seqMove_releasesLock hi hn hne
    exact .inr ⟨hfree, h, ho, .inl rfl, hdone⟩
  by_cases hcancel : ∃ h, m = .cancel h
  · obtain ⟨h, rfl⟩ := hcancel
    cases hn
    obtain ⟨ho, hfree, hdone⟩ := cancelOp_releasesLock hne
    exact .inr ⟨hfree, h, ho, .inr rfl, hdone⟩
  · exact absurd
      (perform_owner_of_other (not_exists.mp hgrant) hseq (not_exists.mp hcancel) hn) hne

end Sys2Proof.Proofs
end

section
/-!
SUPPORT. The bytes of the built frames (41_frame_serializer.md R77, R78, R84): what a sum and `CHK16` are on
a frame's parts, and the frame bodies in a well-formed configuration.
-/

namespace Sys2Proof

/-! ### Sums and CHK16 -/

/-- The sum of R70 is the list sum of the unsigned byte values. -/
theorem byteSum_eq_sum (b : Bytes) : byteSum b = (b.map BitVec.toNat).sum := by
  induction b with
  | nil => rfl
  | cons x b ih => simp [byteSum, ih]

/-- The bytes of `le16(v)` add up to the low byte of `v` plus its high byte (R73). -/
theorem byteSum_le16 (v : Word16) : byteSum (le16 v) = v.toNat % 2 ^ 8 + v.toNat / 2 ^ 8 := by
  have hv := v.isLt
  simp only [le16, byteSum, BitVec.extractLsb'_toNat, Nat.shiftRight_eq_div_pow]
  omega

/-- `CHK16` over a non-empty prefix of a buffer is the sum of that prefix (R70). -/
theorem chk16_append_left {b : Bytes} (c : Bytes) {e : Int} (hb : 0 < b.length)
    (he : e = (b.length : Int) - 1) : chk16 (b ++ c) 0 e = some (sum16 b) := by
  have hend : e.toNat + 1 = b.length := by omega
  rw [chk16_eq_some ⟨le_rfl, by omega, by rw [List.length_append]; omega⟩, Int.toNat_zero,
    slice_zero, hend, List.take_left]

/-- `CHK16` over a whole non-empty buffer is its sum (R70). -/
theorem chk16_self {b : Bytes} {e : Int} (hb : 0 < b.length) (he : e = (b.length : Int) - 1) :
    chk16 b 0 e = some (sum16 b) := by
  rw [← chk16_append_left [] hb he, List.append_nil]

/-! ### The frame bodies in a well-formed configuration -/

/-- The bytes a header frame's checksum covers (R77). -/
theorem headerBody_of_wf {cfg : Config} (hwf : cfg.wf = true) (code : Word16) (p : Word32) :
    headerBody cfg code p = [0x55, 0xAA, 0x01, 0x00] ++ le32 p ++ le16 code := by
  obtain ⟨hdev, hstart, -⟩ := Config.wf_rows hwf
  rw [headerBody, hdev, hstart]
  rfl

/-- The checksum of a header frame is the expanded sum of R78: the four framing bytes add up to 0x100. -/
theorem sum16_headerBody_of_wf {cfg : Config} (hwf : cfg.wf = true) (code : Word16) (p : Word32) :
    sum16 (headerBody cfg code p) = BitVec.ofNat 16 (0x100 + ((le32 p).map BitVec.toNat).sum
      + code.toNat % 2 ^ 8 + code.toNat / 2 ^ 8) := by
  have hframing : byteSum [0x55, 0xAA, 0x01, 0x00] = 0x100 := rfl
  rw [headerBody_of_wf hwf, sum16, byteSum_append, byteSum_append, hframing, byteSum_eq_sum (le32 p),
    byteSum_le16, ← Nat.add_assoc]

/-- A header frame is its body and `le16` of the body's sum (R77). -/
theorem buildCmd_of_wf {cfg : Config} (hwf : cfg.wf = true) (code : Word16) (p : Word32) :
    buildCmd cfg code p = [0x55, 0xAA, 0x01, 0x00] ++ le32 p ++ le16 code
      ++ le16 (sum16 (headerBody cfg code p)) := by
  rw [buildCmd, withChecksum, headerBody_of_wf hwf]

/-- `CHK16` of bytes 0 to 9 of a header frame, in any configuration (R77). -/
theorem chk16_buildCmd (cfg : Config) (code : Word16) (p : Word32) :
    chk16 (buildCmd cfg code p) 0 9 = some (sum16 (headerBody cfg code p)) :=
  chk16_append_left _ (by simp) (by simp)

/-- A data sub-frame is its framing bytes, the data and `le16` of their sum (R84). -/
theorem buildDp_of_wf {cfg : Config} (hwf : cfg.wf = true) (d : Bytes) :
    buildDp cfg d = [0x5A, 0xA5, 0x01, 0x00] ++ d ++ le16 (sum16 ([0x5A, 0xA5, 0x01, 0x00] ++ d)) := by
  obtain ⟨hdev, -, hstart, -⟩ := Config.wf_rows hwf
  rw [buildDp, withChecksum, hdev, hstart]
  rfl

end Sys2Proof

namespace Sys2Proof.Proofs

/-- Settles O5: each frame is its body followed by `le16` of the body's sum, and that sum is `CHK16` of
the body's bytes. -/
theorem frameLayouts : Obligations.FrameLayouts := by
  unfold Obligations.FrameLayouts
  refine ⟨fun cfg code p hwf => ?header, fun cfg d hwf => ?data⟩
  case header =>
    exact ⟨sum16 (headerBody cfg code p), sum16_headerBody_of_wf hwf code p, buildCmd_of_wf hwf code p,
      chk16_buildCmd cfg code p, buildCmd_length cfg code p⟩
  case data =>
    have hchk : chk16 ([0x5A, 0xA5, 0x01, 0x00] ++ d) 0 (d.length + 3)
        = some (sum16 ([0x5A, 0xA5, 0x01, 0x00] ++ d)) :=
      chk16_self (by simp) (by simp; omega)
    exact ⟨_, hchk, buildDp_of_wf hwf d, buildDp_length cfg d⟩

end Sys2Proof.Proofs
end

section
/-!
SUPPORT. The success tests of a response as propositions (42_response_parser.md R90, R91), each said once.
-/

namespace Sys2Proof.Machine

/-- The last term of R90 and R91: there is no data packet, or its checksum is right. -/
theorem Resp.packetOk_iff (r : Resp) : r.packetOk = true ↔ r.dp = none ∨ r.dpOk = true := by
  rw [Resp.packetOk, Bool.or_eq_true, Option.isNone_iff_eq_none]

/-- The formula of R90. -/
theorem Resp.ckOk_iff (r : Resp) :
    r.ckOk = true ↔ r.hdrOk = true ∧ (r.dp = none ∨ r.dpOk = true) := by
  rw [Resp.ckOk, Bool.and_eq_true, r.packetOk_iff]

/-- The formula of R91. -/
theorem baseOk_iff (cfg : Config) (r : Resp) : baseOk cfg r = true ↔
    r.synth = false ∧ r.hdrOk = true ∧ r.code = cfg.ack ∧ (r.dp = none ∨ r.dpOk = true) := by
  simp only [baseOk, Bool.and_eq_true, Bool.not_eq_true', beq_iff_eq, r.packetOk_iff, and_assoc]

/-- Base success reads no parameter (R91). -/
@[simp] theorem baseOk_setParam (cfg : Config) (r : Resp) (p : Word32) :
    baseOk cfg { r with param := p } = baseOk cfg r := rfl

end Sys2Proof.Machine

namespace Sys2Proof.Proofs
open Sys2Proof.Machine

/-- Settles O14: `ckOk` and `baseOk` are the formulas of R90 and R91, and the second mentions no parameter. -/
theorem baseSuccess : Obligations.BaseSuccess := by
  unfold Obligations.BaseSuccess
  exact fun cfg r => ⟨r.ckOk_iff, baseOk_iff cfg r, baseOk_setParam cfg r⟩

end Sys2Proof.Proofs
end

section
/-!
SUPPORT. The length prediction in a well-formed configuration (43_length_prediction.md R100 to R103): one rule
for the commands outside the table of R100, one for those in it, overrides included.
-/

namespace Sys2Proof

variable {cfg : Config} {c : Cmd}

/-- No reply's data is longer than an image (R100), so a predicted length fits in 32 bits. -/
theorem dpInLen_le {n : Nat} (hlen : dpInLen c = some n) : n ≤ 52116 := by
  cases c <;> simp [dpInLen] at hlen <;> omega

/-- A command outside the table of R100 predicts a header frame. -/
theorem predict_toNat_of_noData (hwf : cfg.wf = true) (hlen : dpInLen c = none) (p : Word32) :
    (predict cfg c p).toNat = 12 := by
  obtain ⟨-, -, -, hhdr, -⟩ := Config.wf_rows hwf
  simp [predict, hlen, hhdr]

/-- A command of the table of R100 predicts a header frame under the overrides of R101 and R102, and
otherwise a header frame, a data sub-frame's overhead and its data. -/
theorem predict_toNat_of_data {n : Nat} (hwf : cfg.wf = true) (hlen : dpInLen c = some n) (p : Word32) :
    (predict cfg c p).toNat =
      if c = .openCmd ∧ p = 0 ∨ c = .enroll3 ∧ p ≠ -1 then 12 else 12 + 6 + n := by
  obtain ⟨-, -, -, hhdr, hover, -⟩ := Config.wf_rows hwf
  have hfits : (BitVec.ofNat 32 (12 + 6 + n)).toNat = 12 + 6 + n :=
    Nat.mod_eq_of_lt (by have := dpInLen_le hlen; omega)
  simp only [predict, hlen, hhdr, hover]
  by_cases hprobe : c = .openCmd ∧ p = 0
  · rw [if_pos hprobe, if_pos (.inl hprobe)]; rfl
  by_cases hfinal : c = .enroll3 ∧ p ≠ -1
  · rw [if_neg hprobe, if_pos hfinal, if_pos (.inr hfinal)]; rfl
  · rw [if_neg hprobe, if_neg hfinal, if_neg (not_or.mpr ⟨hprobe, hfinal⟩), hfits]

end Sys2Proof

namespace Sys2Proof.Proofs

/-- Settles O10: the six commands of R100's table by the rule with the overrides, the others by the rule
without data. -/
theorem predictedLengths : Obligations.PredictedLengths := by
  unfold Obligations.PredictedLengths
  intro cfg c p hwf
  cases c with
  | openCmd => simp [predict_toNat_of_data hwf (c := .openCmd) rfl]
  | enroll3 => simp [predict_toNat_of_data hwf (c := .enroll3) rfl]
  | makeTemplate => simp [predict_toNat_of_data hwf (c := .makeTemplate) rfl]
  | getTemplate => simp [predict_toNat_of_data hwf (c := .getTemplate) rfl]
  | getImage => simp [predict_toNat_of_data hwf (c := .getImage) rfl]
  | getRawImage => simp [predict_toNat_of_data hwf (c := .getRawImage) rfl]
  | _ => exact predict_toNat_of_noData hwf rfl p

end Sys2Proof.Proofs
end

section
/-!
SUPPORT. CANCEL of a waiting request (44_transaction_sequencer.md R118), and the register view, which shows
neither the waiters nor the mailboxes (10_state.md R23 to R27).
-/

namespace Sys2Proof.Machine

/-- No register shows the waiters (R23 to R27). -/
@[simp] theorem readRegister_setWaiters (s : State) (w : List (HostId × Request)) (n : Nat) :
    readRegister { s with waiters := w } n = readRegister s n := rfl

/-- No register shows a mailbox (R23 to R27). -/
@[simp] theorem readRegister_deliver (s : State) (h : HostId) (r : Result) (n : Nat) :
    readRegister (s.deliver h r) n = readRegister s n := rfl

/-- CANCEL by a host that waits and does not hold the lock removes its request (R118). -/
theorem cancelOp_of_waiting {s : State} {h : HostId} (ho : s.owner ≠ some h)
    (hw : mapGet s.waiters h ≠ none) :
    cancelOp h s =
      State.deliver { s with waiters := mapErase s.waiters h } h (cancelledResult false) := by
  have hrun : ¬(s.owner = some h ∧ s.phase ≠ .idle) := fun hr => ho hr.1
  rw [cancelOp, if_neg hrun, if_pos (Option.isSome_iff_ne_none.mpr hw)]

end Sys2Proof.Machine

namespace Sys2Proof.Proofs
open Sys2Proof.Machine

/-- Settles O36: CANCEL takes its waiting branch, which writes only the waiters and a mailbox, and no
register shows either. -/
theorem cancelRemovesWaiting : Obligations.CancelRemovesWaiting := by
  unfold Obligations.CancelRemovesWaiting
  intro s h ho hw
  refine ⟨_, rfl, ?step, fun n => ?registers⟩
  case step =>
    rw [perform, cancelOp_of_waiting ho hw]
    rfl
  case registers =>
    exact (readRegister_deliver _ h (cancelledResult false) n).trans (readRegister_setWaiters s _ n)

end Sys2Proof.Proofs
end

section
/-!
SUPPORT. The codec layer on whole buffers (40_checksum_codec.md R70 to R76): field reads in a concatenation,
`VALID16` from byte 0 as one equation, and how a sum sees a replaced part.
-/

namespace Sys2Proof

/-! ### Field reads -/

/-- The bytes of `le16` (R73). -/
theorem le16_eq (v : Word16) : le16 v = [BitVec.ofNat 8 v.toNat, BitVec.ofNat 8 (v.toNat / 2 ^ 8)] := by
  simp [le16, BitVec.extractLsb', Nat.shiftRight_eq_div_pow]

/-- The bytes of `le32` (R73). -/
theorem le32_eq (v : Word32) : le32 v = [BitVec.ofNat 8 v.toNat, BitVec.ofNat 8 (v.toNat / 2 ^ 8),
    BitVec.ofNat 8 (v.toNat / 2 ^ 16), BitVec.ofNat 8 (v.toNat / 2 ^ 24)] := by
  simp [le32, BitVec.extractLsb', Nat.shiftRight_eq_div_pow]

/-- A 16-bit read behind `a` is a read of what follows `a`. -/
theorem u16le_append_right (a b : Bytes) {i k : Nat} (hi : i = a.length + k) :
    u16le (a ++ b) i = u16le b k := by
  subst hi
  simp only [u16le, Nat.add_assoc, List.getElem?_append_right (Nat.le_add_right _ _),
    Nat.add_sub_cancel_left]

/-- A 32-bit read behind `a` is a read of what follows `a`. -/
theorem u32le_append_right (a b : Bytes) {i k : Nat} (hi : i = a.length + k) :
    u32le (a ++ b) i = u32le b k := by
  subst hi
  simp only [u32le, Nat.add_assoc, List.getElem?_append_right (Nat.le_add_right _ _),
    Nat.add_sub_cancel_left]

/-- A 16-bit read inside `a` does not see what follows `a`. -/
theorem u16le_append_left (a b : Bytes) {i : Nat} (hi : i + 1 < a.length) :
    u16le (a ++ b) i = u16le a i := by
  simp only [u16le, List.getElem?_append_left hi,
    List.getElem?_append_left (show i < a.length by omega)]

/-- A 32-bit read inside `a` does not see what follows `a`. -/
theorem u32le_append_left (a b : Bytes) {i : Nat} (hi : i + 3 < a.length) :
    u32le (a ++ b) i = u32le a i := by
  simp only [u32le, List.getElem?_append_left hi,
    List.getElem?_append_left (show i < a.length by omega),
    List.getElem?_append_left (show i + 1 < a.length by omega),
    List.getElem?_append_left (show i + 2 < a.length by omega)]

/-- Reading back what `le16` wrote (R75). -/
theorem u16le_le16_append (v : Word16) (c : Bytes) : u16le (le16 v ++ c) 0 = some v := by
  have hv := v.isLt
  rw [le16_eq, u16le_eq_some (by simp)]
  refine congrArg some (BitVec.eq_of_toNat_eq ?_)
  simp
  omega

/-- Reading back what `le32` wrote (R75). -/
theorem u32le_le32_append (v : Word32) (c : Bytes) : u32le (le32 v ++ c) 0 = some v := by
  have hv := v.isLt
  rw [le32_eq, u32le_eq_some (by simp)]
  refine congrArg some (BitVec.eq_of_toNat_eq ?_)
  simp
  omega

/-- The low half of what `le32` wrote (R75). -/
theorem u16le_le32 (v : Word32) : u16le (le32 v) 0 = some (BitVec.ofNat 16 (v.toNat % 2 ^ 16)) := by
  have hv := v.isLt
  rw [le32_eq, u16le_eq_some (by simp)]
  refine congrArg some (BitVec.eq_of_toNat_eq ?_)
  simp
  omega

/-! ### Sums -/

/-- The sum of a slice, byte by byte. -/
theorem byteSum_take_drop (b : Bytes) (s n : Nat) (h : s + n ≤ b.length) :
    byteSum ((b.drop s).take n) = ((List.range n).map fun k => (b.getD (s + k) 0).toNat).sum := by
  induction n with
  | zero => simp [byteSum]
  | succ n ih =>
    have hget : (b.drop s)[n]? = some (b.getD (s + n) 0) := by
      rw [List.getElem?_drop, List.getD_eq_getElem?_getD, List.getElem?_eq_getElem (by omega),
        Option.getD_some]
    rw [List.take_add_one, hget, byteSum_append, ih (by omega), List.range_succ, List.map_append,
      List.sum_append]
    simp [byteSum]

/-- What setting one byte does to the sum. -/
theorem byteSum_set (b : Bytes) {k : Nat} (x : Byte) (hk : k < b.length) :
    byteSum (b.set k x) + b[k].toNat = byteSum b + x.toNat := by
  induction b generalizing k with
  | nil => simp at hk
  | cons y b ih =>
    cases k with
    | zero => simp [byteSum]; omega
    | succ k =>
      have := ih (k := k) (by simpa using hk)
      simp [byteSum]; omega

/-- A sum sees one part of a buffer only through that part's sum. -/
theorem sum16_append_congr {a b : Bytes} (h : sum16 a = sum16 b) (c : Bytes) :
    sum16 (a ++ c) = sum16 (b ++ c) := by
  have split (x : Bytes) : sum16 (x ++ c) = sum16 x + sum16 c := by
    simp [sum16, BitVec.ofNat_add]
  rw [split, split, h]

/-- Setting one byte to another value changes the 16-bit sum: the two sums differ by less than 256. -/
theorem sum16_set_ne {b : Bytes} {k : Nat} {x : Byte} (hk : k < b.length) (hx : b[k] ≠ x) :
    sum16 (b.set k x) ≠ sum16 b := by
  intro heq
  have hnat := congrArg BitVec.toNat heq
  have hset := byteSum_set b x hk
  have hold := b[k].isLt
  have hnew := x.isLt
  have hne : b[k].toNat ≠ x.toNat := fun e => hx (BitVec.eq_of_toNat_eq e)
  simp only [sum16, BitVec.toNat_ofNat] at hnat
  omega

/-! ### VALID16 from byte 0 -/

/-- `VALID16` of bytes 0 to `n` compares the word stored in the last two with the sum of those before
them (R72). -/
theorem valid16_eq {b : Bytes} {e : Int} {n : Nat} (he : e = ((n + 1 : Nat) : Int)) (hn : 1 ≤ n)
    (hlen : n + 1 < b.length) :
    valid16 b 0 e = (u16le b n).map fun stored => sum16 (b.take n) == stored := by
  subst he
  have hsum : chk16 b 0 ((n + 1 : Nat) - 2 : Int) = some (sum16 (b.take n)) := by
    rw [chk16_eq_some ⟨le_rfl, by omega, by omega⟩, Int.toNat_zero, slice_zero]
    congr 3
    omega
  have hpos : ((n + 1 : Nat) - 1 : Int).toNat = n := by omega
  unfold valid16
  rw [if_pos ⟨le_rfl, by exact_mod_cast hlen⟩, if_neg (by omega), hsum, hpos,
    u16le_eq_some hlen]
  rfl

/-- One or two bytes are no valid range (R72, D45). -/
theorem valid16_short {b : Bytes} {e : Int} (he : e < b.length) (hshort : e < 2) :
    valid16 b 0 e = some false := by
  unfold valid16
  rw [if_pos ⟨le_rfl, he⟩, if_pos (by omega)]

/-- A non-empty body followed by its checksum validates, whatever follows (R71, R72). -/
theorem valid16_withChecksum_append {body : Bytes} (c : Bytes) {e : Int} (hb : 1 ≤ body.length)
    (he : e = (body.length : Int) + 1) : valid16 (withChecksum body ++ c) 0 e = some true := by
  have hstored : u16le (withChecksum body ++ c) body.length = some (sum16 body) := by
    rw [withChecksum, List.append_assoc, u16le_append_right body _ (Nat.add_zero _).symm,
      u16le_le16_append]
  have htake : (withChecksum body ++ c).take body.length = body := by
    rw [withChecksum, List.append_assoc, List.take_left]
  rw [valid16_eq (n := body.length) (by simpa using he) hb (by simp; omega), hstored, htake]
  simp

/-- `VALID16` of bytes of `a` does not see what follows `a`. -/
theorem valid16_append_left (a b : Bytes) {e : Int} (hlow : 2 ≤ e) (hhigh : e < a.length) :
    valid16 (a ++ b) 0 e = valid16 a 0 e := by
  obtain ⟨n, hn⟩ : ∃ n, n = (e - 1).toNat := ⟨_, rfl⟩
  have he : e = ((n + 1 : Nat) : Int) := by omega
  rw [valid16_eq he (by omega) (by simp; omega), valid16_eq he (by omega) (by omega),
    u16le_append_left a b (by omega), List.take_append_of_le_length (by omega)]

/-- `VALID16` sees a part before the last two bytes only through its length and its sum. -/
theorem valid16_append_congr {a b : Bytes} (y : Bytes) {e : Int} (hab : a.length = b.length)
    (hs : sum16 a = sum16 b) (hlow : (a.length : Int) + 1 ≤ e) (hpos : 2 ≤ e)
    (hhigh : e < a.length + y.length) : valid16 (a ++ y) 0 e = valid16 (b ++ y) 0 e := by
  obtain ⟨n, hn⟩ : ∃ n, n = (e - 1).toNat - a.length := ⟨_, rfl⟩
  have he : e = ((a.length + n + 1 : Nat) : Int) := by omega
  have he' : e = ((b.length + n + 1 : Nat) : Int) := by rw [← hab]; exact he
  rw [valid16_eq he (by omega) (by simp; omega), valid16_eq he' (by omega) (by simp; omega),
    u16le_append_right a y rfl, u16le_append_right b y rfl, List.take_length_add_append,
    List.take_length_add_append, sum16_append_congr hs]

end Sys2Proof

namespace Sys2Proof.Proofs

/-- Settles O1: the encoders are shifts, and the decoders add the shifted bytes up again. -/
theorem codecRoundTrip : Obligations.CodecRoundTrip := by
  unfold Obligations.CodecRoundTrip
  exact ⟨le16_eq, le32_eq, fun v => u16le_le16_append v [], fun v => u32le_le32_append v [], u16le_le32⟩

/-- Settles O2: `CHK16` is the sum of a slice, which is the sum over the range of its indices. -/
theorem checksumIsByteSum : Obligations.ChecksumIsByteSum := by
  unfold Obligations.ChecksumIsByteSum
  intro b s e
  refine ⟨fun hout => if_neg hout, fun hin => ?_⟩
  rw [chk16_eq_some hin, sum16, slice, byteSum_take_drop b _ _ (by omega)]

/-- Settles O3: the equation of `VALID16`, whose sum is `CHK16` of the same first bytes. -/
theorem checksumRoundTrip : Obligations.ChecksumRoundTrip := by
  unfold Obligations.ChecksumRoundTrip
  refine ⟨fun b hb => ?iff, fun b hb => ?short, fun p hp => ?appended⟩
  case iff =>
    have hchk : chk16 b 0 (b.length - 3) = some (sum16 (b.take (b.length - 2))) := by
      rw [chk16_eq_some ⟨le_rfl, by omega, by omega⟩, Int.toNat_zero, slice_zero]
      congr 3
      omega
    rw [valid16_eq (n := b.length - 2) (by omega) (by omega) (by omega), hchk,
      u16le_eq_some (by omega)]
    simp only [Option.map_some, Option.some.injEq, beq_iff_eq]
    exact eq_comm
  case short => exact valid16_short (by omega) (by omega)
  case appended =>
    refine ⟨sum16 p, chk16_self hp rfl, ?_⟩
    simpa [withChecksum] using valid16_withChecksum_append [] hp rfl

/-- Settles O4: the stored word stays, and the sum of the covered bytes changes. -/
theorem coveredByteChangeDetected : Obligations.CoveredByteChangeDetected := by
  unfold Obligations.CoveredByteChangeDetected
  intro b k x hlen hk hx hvalid
  have hk' : k < (b.take (b.length - 2)).length := by simp; omega
  have hstored : u16le (b.set k x) (b.length - 2) = u16le b (b.length - 2) := by
    simp only [u16le, List.getElem?_set_ne (show k ≠ b.length - 2 by omega),
      List.getElem?_set_ne (show k ≠ b.length - 2 + 1 by omega)]
  have hsum := sum16_set_ne (b := b.take (b.length - 2)) (x := x) hk'
    (by simpa [List.getElem?_eq_getElem (show k < b.length by omega)] using hx)
  have hlast : ((b.length : Int) - 1) = ((b.length - 2 + 1 : Nat) : Int) := by omega
  rw [valid16_eq hlast (by omega) (by omega), u16le_eq_some (by omega)] at hvalid
  rw [valid16_eq hlast (by omega) (by simp; omega), hstored, u16le_eq_some (by omega),
    List.take_set]
  simp only [Option.map_some, Option.some.injEq, beq_iff_eq, beq_eq_false_iff_ne] at hvalid ⊢
  exact hvalid ▸ hsum

end Sys2Proof.Proofs
end

section
/-!
SUPPORT. The decoder on the frames that the serializer builds (30_encoding.md R51, R52): its tests pass, its
field reads give back what was written, and what is left is the request's decoding. In any configuration.
-/

namespace Sys2Proof

variable (cfg : Config) (code : Word16) (p : Word32)

/-! ### The fields of a header frame -/

/-- The start code stands first (R51). -/
theorem take_two_buildCmd (rest : Bytes) :
    (buildCmd cfg code p ++ rest).take 2 = [cfg.hdrStart.1, cfg.hdrStart.2] := rfl

/-- The device id stands at byte 2 (R54). -/
theorem slice_deviceId_buildCmd (rest : Bytes) :
    slice (buildCmd cfg code p ++ rest) 2 3 = le16 cfg.deviceId := rfl

/-- The parameter stands at byte 4 (R57). -/
theorem i32le_buildCmd (rest : Bytes) : i32le (buildCmd cfg code p ++ rest) 4 = some p :=
  u32le_le32_append p (le16 code ++ le16 (sum16 (headerBody cfg code p)) ++ rest)

/-- The code stands at byte 8 (R58). -/
theorem u16le_buildCmd (rest : Bytes) : u16le (buildCmd cfg code p ++ rest) 8 = some code :=
  u16le_le16_append code (le16 (sum16 (headerBody cfg code p)) ++ rest)

/-- A header frame's checksum is right (R53). -/
theorem valid16_buildCmd (rest : Bytes) : valid16 (buildCmd cfg code p ++ rest) 0 11 = some true :=
  valid16_withChecksum_append rest (by simp) (by simp)

/-! ### The fields of a bulk sub-frame -/

/-- The data stands from byte 4 up to the checksum (R52). -/
theorem slice_data_buildDp (d : Bytes) : slice (buildDp cfg d) 4 (d.length + 3) = d := by
  change (d ++ le16 _).take (d.length + 3 + 1 - 4) = d
  simp

/-- A bulk sub-frame's checksum is right (R53). -/
theorem valid16_buildDp (d : Bytes) : valid16 (buildDp cfg d) 0 (d.length + 5) = some true := by
  have h := valid16_withChecksum_append (body := [cfg.dpStart.1, cfg.dpStart.2] ++ le16 cfg.deviceId ++ d)
    [] (e := (d.length : Int) + 5) (by simp) (by simp; omega)
  rwa [List.append_nil] at h

/-- Zero bytes add nothing to a sum. -/
theorem byteSum_replicate_zero (n : Nat) : byteSum (List.replicate n 0) = 0 := by
  induction n with
  | zero => rfl
  | succ n ih => rw [List.replicate_succ, byteSum, ih]; rfl

/-! ### Decoding -/

/-- The bulk sub-frame of some data decodes to the data. -/
theorem decodePacket_buildDp (d : Bytes) : decodePacket cfg (buildDp cfg d) = .ok d := by
  have hstart : (buildDp cfg d).take 2 = [cfg.dpStart.1, cfg.dpStart.2] := rfl
  have hdevice : slice (buildDp cfg d) 2 3 = le16 cfg.deviceId := rfl
  have hlast : (((d.length + 6 : Nat) : Int) - 1) = d.length + 5 := by omega
  have hend : d.length + 6 - 3 = d.length + 3 := by omega
  simp only [decodePacket, buildDp_length, hstart, hdevice, hlast, hend, valid16_buildDp,
    slice_data_buildDp]
  simp

/-- A header frame alone decodes as its request without data. -/
theorem decode_buildCmd {i : Instr} (h : decodeRequest cfg code p none = .ok i) :
    decode cfg (buildCmd cfg code p) = .ok i := by
  have hparts := List.append_nil (buildCmd cfg code p)
  unfold decode
  rw [if_neg (by simp), ← hparts, take_two_buildCmd, slice_deviceId_buildCmd, valid16_buildCmd,
    i32le_buildCmd, u16le_buildCmd]
  simp [h]

/-- A header frame and a bulk sub-frame decode as the header's request with the data. -/
theorem decode_buildCmd_buildDp {d : Bytes} {i : Instr}
    (h : decodeRequest cfg code p (some d) = .ok i) :
    decode cfg (buildCmd cfg code p ++ buildDp cfg d) = .ok i := by
  have hdrop : (buildCmd cfg code p ++ buildDp cfg d).drop 12 = buildDp cfg d := rfl
  unfold decode
  rw [if_neg (by simp), take_two_buildCmd, slice_deviceId_buildCmd, valid16_buildCmd,
    i32le_buildCmd, u16le_buildCmd, hdrop, decodePacket_buildDp]
  simp [h]

/-! ### The request of an instruction -/

/-- CHECK_REQUEST passes a well-formed instruction's request (R108). -/
theorem checkRequest_of_wellFormed {cfg : Config} (hwf : cfg.wf = true) {i : Instr}
    (hi : i.wellFormed = true) : checkRequest cfg (cfg.codeOf i.cmd) i.data = .noReject := by
  have hcmd := cmdOfCode_codeOf hwf i.cmd
  cases hd : i.data with
  | none =>
    have hn : dpOutLen i.cmd = none := by simpa [hd] using (data_isSome i).symm
    simp [checkRequest, hcmd, hn]
  | some d =>
    have hn : dpOutLen i.cmd = some d.length := by simpa [Instr.wellFormed, hd] using hi
    simp [checkRequest, hcmd, hn]

/-- A well-formed instruction's request decodes to it. -/
theorem decodeRequest_of_wellFormed {cfg : Config} (hwf : cfg.wf = true) {i : Instr}
    (hi : i.wellFormed = true) : decodeRequest cfg (cfg.codeOf i.cmd) i.param i.data = .ok i := by
  simp [decodeRequest, checkRequest_of_wellFormed hwf hi, cmdOfCode_codeOf hwf]

/-- No command has an unknown code (R63). -/
theorem cmdOfCode_eq_none {cfg : Config} {code : Word16} (h : ∀ c, cfg.codeOf c ≠ code) :
    cmdOfCode cfg code = none :=
  List.find?_eq_none.mpr fun c _ => by simpa using h c

end Sys2Proof

namespace Sys2Proof.Proofs

/-- Settles O6: an instruction's bytes are its request's frames, and its request decodes to it. -/
theorem decodeOfEncode : Obligations.DecodeOfEncode := by
  unfold Obligations.DecodeOfEncode
  intro cfg i hwf hi
  have hreq := decodeRequest_of_wellFormed hwf hi
  unfold encode
  cases hd : i.data with
  | none =>
    rw [hd] at hreq
    simpa using decode_buildCmd cfg _ _ hreq
  | some d =>
    rw [hd] at hreq
    exact decode_buildCmd_buildDp cfg _ _ hreq

/-- Settles O7: each frame is the encoding of its instruction, so it decodes to it. -/
theorem specFramesDecode : Obligations.SpecFramesDecode := by
  have hwf : Config.default.wf = true := by decide
  have hback (i : Instr) (hi : i.wellFormed = true) := decodeOfEncode Config.default i hwf hi
  unfold Obligations.SpecFramesDecode
  refine ⟨hback (.openCmd 1) rfl, hback (.changeBaudRate 115200) rfl, hback (.enroll3 (-1)) rfl,
    hback (.deleteId 5) rfl, hback (.captureFinger 1) rfl, hback (.getSecurityLevel 0) rfl, ?_⟩
  have hsum : sum16 ([0x5A, 0xA5, 0x01, 0x00] ++ List.replicate 498 0x00) = 0x100 := by
    rw [sum16, byteSum_append, byteSum_replicate_zero]
    rfl
  have hdata : buildDp Config.default (List.replicate 498 0x00) =
      [0x5A, 0xA5, 0x01, 0x00] ++ List.replicate 498 0x00 ++ [0x00, 0x01] := by
    rw [buildDp_of_wf hwf, hsum]
    rfl
  rw [← hdata]
  refine hback (.setTemplate 5 (List.replicate 498 0x00)) ?_
  simp only [Instr.wellFormed, Instr.data, Instr.cmd, dpOutLen, List.length_replicate, BEq.rfl]

/-- Settles O8: a request that decodes carries the instruction's fields, and its frames decode as it does. -/
theorem wireAndRequestDecodersAgree : Obligations.WireAndRequestDecodersAgree := by
  unfold Obligations.WireAndRequestDecodersAgree
  intro cfg code p data i _ hreq
  obtain ⟨-, hcode, hparam, hdata, hform⟩ := decodeRequest_ok hreq
  refine ⟨hform, codeOf_of_cmdOfCode hcode, hparam, hdata, ?_⟩
  cases data with
  | none => simpa using decode_buildCmd cfg code p hreq
  | some d => exact decode_buildCmd_buildDp cfg code p hreq

/-- Settles O9: the table by cases, and CHECK_REQUEST through the command its code stands for. -/
theorem constructionCheckOrder : Obligations.ConstructionCheckOrder := by
  unfold Obligations.ConstructionCheckOrder
  refine ⟨fun c n => ?table, fun cfg code data hwf => ⟨fun hunknown => ?unknown, ?known⟩⟩
  case table => cases c <;> simp [dpOutLen, eq_comm]
  case unknown => simp [checkRequest, cmdOfCode_eq_none hunknown]
  case known =>
    rintro c rfl
    have hcmd := cmdOfCode_codeOf hwf c
    refine ⟨fun hn hd => ?_, fun hn hd => ?_, fun hn hd => ?_, fun n d hn hd => ?_⟩
    · obtain ⟨n, hn⟩ := Option.ne_none_iff_exists'.mp hn
      simp [checkRequest, hcmd, hn, hd]
    · obtain ⟨d, hd⟩ := Option.ne_none_iff_exists'.mp hd
      simp [checkRequest, hcmd, hn, hd]
    · simp [checkRequest, hcmd, hn, hd]
    · simp [checkRequest, hcmd, hn, hd]

end Sys2Proof.Proofs
end

section
/-!
SUPPORT. PARSE (42_response_parser.md R86 to R89) in a well-formed configuration: one equation for PARSE and
one for PARSE_DP, on built frames, and under a change of the bytes it does not compare.
-/

namespace Sys2Proof.Machine

/-! ### PARSE and PARSE_DP as equations -/

/-- PARSE_DP of a region that can hold a sub-frame: the bytes between the framing and the checksum, and
whether the region validates (R88). -/
theorem parseDp_of_long {cfg : Config} (hwf : cfg.wf = true) {r : Bytes} (hr : 6 ≤ r.length) :
    parseDp cfg r = (valid16 r 0 (r.length - 1)).map fun ok => (slice r 4 (r.length - 3), ok) := by
  obtain ⟨-, -, -, -, hover, -⟩ := Config.wf_rows hwf
  unfold parseDp
  rw [hover, if_pos hr]
  cases valid16 r 0 (r.length - 1) <;> rfl

/-- PARSE_DP of a shorter region: an empty invalid packet (R88, D14). -/
theorem parseDp_of_short {cfg : Config} (hwf : cfg.wf = true) {r : Bytes} (hr : r.length < 6) :
    parseDp cfg r = some ([], false) := by
  obtain ⟨-, -, -, -, hover, -⟩ := Config.wf_rows hwf
  unfold parseDp
  rw [hover, if_neg (by omega)]

/-- PARSE of a buffer that holds a header frame, from the header's fields (R86, R87). -/
theorem parse_eq {cfg : Config} (hwf : cfg.wf = true) {raw : Bytes} {p : Word32} {code : Word16}
    {ok : Bool} (hp : i32le raw 4 = some p) (hc : u16le raw 8 = some code)
    (hv : valid16 raw 0 11 = some ok) :
    parse cfg raw =
      if raw.length ≤ 12 then
        some { raw, param := p, code, hdrOk := ok, dp := none, dpOk := false, synth := false }
      else (parseDp cfg (raw.drop 12)).map fun x =>
        { raw, param := p, code, hdrOk := ok, dp := some x.1, dpOk := x.2, synth := false } := by
  obtain ⟨-, -, -, hhdr, -⟩ := Config.wf_rows hwf
  have hlast : (((12 : Nat) : Int) - 1) = 11 := by norm_num
  unfold parse
  rw [hhdr, hlast, hp, hc, hv]
  dsimp only
  split
  · rfl
  · cases parseDp cfg (raw.drop 12) <;> rfl

/-- The header's fields of a buffer of twelve or more bytes (R86). -/
theorem exists_header_fields {raw : Bytes} (hraw : 12 ≤ raw.length) :
    ∃ p code ok, i32le raw 4 = some p ∧ u16le raw 8 = some code ∧ valid16 raw 0 11 = some ok := by
  obtain ⟨ok, hv⟩ := valid16_eq_some (b := raw) (s := 0) (e := 11) le_rfl (by omega)
  exact ⟨_, _, ok, u32le_eq_some (by omega), u16le_eq_some (by omega), hv⟩

/-- PARSE_DP of a built sub-frame gives its data back, valid. -/
theorem parseDp_buildDp {cfg : Config} (hwf : cfg.wf = true) (d : Bytes) :
    parseDp cfg (buildDp cfg d) = some (d, true) := by
  have hlast : (((d.length + 6 : Nat) : Int) - 1) = d.length + 5 := by omega
  have hend : d.length + 6 - 3 = d.length + 3 := by omega
  rw [parseDp_of_long hwf (by simp), buildDp_length, hlast, hend, valid16_buildDp, slice_data_buildDp]
  rfl

/-! ### The framing bytes count only through their sum (R89) -/

section framing
variable {cfg : Config} (hwf : cfg.wf = true) {a b : Bytes} (ha : a.length = 4) (hb : b.length = 4)
  (hs : sum16 a = sum16 b) (y : Bytes)
include hwf ha hb hs

/-- PARSE_DP does not compare the first four bytes of its region. -/
theorem parseDp_append_congr : parseDp cfg (a ++ y) = parseDp cfg (b ++ y) := by
  have hlen : (a ++ y).length = (b ++ y).length := by simp [ha, hb]
  by_cases hlong : 6 ≤ (a ++ y).length
  · have hslice (x : Bytes) (hx : x.length = 4) (j : Nat) : slice (x ++ y) 4 j = y.take (j + 1 - 4) := by
      rw [slice, List.drop_left' hx]
    rw [parseDp_of_long hwf hlong, parseDp_of_long hwf (hlen ▸ hlong), ← hlen, hslice a ha, hslice b hb,
      valid16_append_congr y (ha.trans hb.symm) hs (by simp at hlong ⊢; omega)
        (by simp at hlong ⊢; omega) (by simp)]
  · rw [parseDp_of_short hwf (by omega), parseDp_of_short hwf (by omega)]

/-- PARSE does not compare the first four bytes of the header. -/
theorem parse_append_congr (hy : 8 ≤ y.length) :
    parse cfg (a ++ y) = (parse cfg (b ++ y)).map fun r => { r with raw := a ++ y } := by
  obtain ⟨p, code, ok, hp, hc, hv⟩ := exists_header_fields (raw := a ++ y) (by simp; omega)
  have hp' : i32le (b ++ y) 4 = some p := by
    rw [← hp, i32le, i32le, u32le_append_right a y (k := 0) (by omega),
      u32le_append_right b y (k := 0) (by omega)]
  have hc' : u16le (b ++ y) 8 = some code := by
    rw [← hc, u16le_append_right a y (k := 4) (by omega), u16le_append_right b y (k := 4) (by omega)]
  have hv' : valid16 (b ++ y) 0 11 = some ok := by
    rw [← hv, valid16_append_congr y (ha.trans hb.symm) hs (by omega) (by omega) (by omega)]
  have hdrop (x : Bytes) (hx : x.length = 4) : (x ++ y).drop 12 = y.drop 8 := by
    rw [show 12 = x.length + 8 by omega, List.drop_length_add_append]
  have hlen : (a ++ y).length = (b ++ y).length := by simp [ha, hb]
  rw [parse_eq hwf hp hc hv, parse_eq hwf hp' hc' hv', hdrop a ha, hdrop b hb, hlen]
  split
  · rfl
  · cases parseDp cfg (y.drop 8) <;> rfl

/-- PARSE does not compare the first four bytes of the data packet. -/
theorem parse_append_append_congr {x : Bytes} (hx : x.length = 12) :
    parse cfg (x ++ a ++ y) = (parse cfg (x ++ b ++ y)).map fun r => { r with raw := x ++ a ++ y } := by
  obtain ⟨p, code, ok, hp, hc, hv⟩ := exists_header_fields hx.ge
  have hparse (z : Bytes) (hz : z.length = 4) : parse cfg (x ++ z ++ y) =
      (parseDp cfg (z ++ y)).map fun w => { raw := x ++ z ++ y, param := p, code, hdrOk := ok,
                                            dp := some w.1, dpOk := w.2, synth := false } := by
    rw [List.append_assoc, parse_eq hwf ((u32le_append_left x _ (by omega)).trans hp)
      ((u16le_append_left x _ (by omega)).trans hc)
      ((valid16_append_left x _ (by omega) (by omega)).trans hv), if_neg (by simp; omega),
      List.drop_left' hx]
  rw [hparse a ha, hparse b hb, parseDp_append_congr hwf ha hb hs]
  cases parseDp cfg (b ++ y) <;> rfl

end framing

end Sys2Proof.Machine

namespace Sys2Proof.Proofs
open Sys2Proof.Machine

/-- Settles O11: PARSE's equation, with PARSE_DP's on the bytes behind the header. -/
theorem parsedFields : Obligations.ParsedFields := by
  unfold Obligations.ParsedFields
  intro cfg raw hwf hraw
  obtain ⟨p, code, ok, hp, hc, hv⟩ := exists_header_fields hraw
  have hparse := parse_eq hwf hp hc hv
  by_cases hshort : raw.length ≤ 12
  · rw [if_pos hshort] at hparse
    exact ⟨_, hparse, rfl, rfl, hp, hc, hv, fun _ => ⟨rfl, rfl⟩, fun _ => by omega, fun _ => by omega⟩
  rw [if_neg hshort] at hparse
  by_cases hstub : raw.length < 18
  · rw [parseDp_of_short hwf (by simp; omega)] at hparse
    exact ⟨_, hparse, rfl, rfl, hp, hc, hv, fun _ => by omega, fun _ _ => ⟨rfl, rfl⟩, fun _ => by omega⟩
  · obtain ⟨dpOk, hdp⟩ := valid16_eq_some (b := raw.drop 12) (s := 0) (e := (raw.length : Int) - 13)
      le_rfl (by simp; omega)
    have hlast : (((raw.drop 12).length : Int) - 1) = raw.length - 13 := by simp; omega
    have hslice : slice (raw.drop 12) 4 ((raw.drop 12).length - 3) = slice raw 16 (raw.length - 3) := by
      unfold slice
      rw [List.drop_drop, List.length_drop]
      congr 1
    rw [parseDp_of_long hwf (by simp; omega), hlast, hdp, hslice] at hparse
    exact ⟨_, hparse, rfl, rfl, hp, hc, hv, fun _ => by omega, fun _ _ => by omega,
      fun _ => ⟨rfl, hdp⟩⟩

/-- Settles O12: the fields that the serializer wrote are the fields that PARSE reads. -/
theorem replyFramesParseBack : Obligations.ReplyFramesParseBack := by
  unfold Obligations.ReplyFramesParseBack
  intro cfg code p hwf
  have hparse (rest : Bytes) := parse_eq hwf (i32le_buildCmd cfg code p rest)
    (u16le_buildCmd cfg code p rest) (valid16_buildCmd cfg code p rest)
  refine ⟨?header, fun d => ?packet⟩
  case header => simpa using hparse []
  case packet =>
    have hdrop : (buildCmd cfg code p ++ buildDp cfg d).drop 12 = buildDp cfg d := rfl
    rw [hparse, if_neg (by simp), hdrop, parseDp_buildDp hwf]
    rfl

/-- Settles O13: the framing bytes stand before every field and the stored checksums, and their sum is
all that VALID16 takes from them. -/
theorem startCodesNotCompared : Obligations.StartCodesNotCompared := by
  unfold Obligations.StartCodesNotCompared
  intro cfg a b hwf ha hb hs
  exact ⟨fun y hy => parse_append_congr hwf ha hb hs y hy,
    fun x y hx => parse_append_append_congr hwf ha hb hs y hx⟩

end Sys2Proof.Proofs
end

section
/-!
SUPPORT. The sequencer's rules, one per outcome of a phase (44_transaction_sequencer.md R109 to R117), and
from them the meaning of the 25 commands in each phase.
-/

namespace Sys2Proof.Machine

variable {c : Cmd} {p : Word32} {d : Option Bytes} {s : State} {h : HostId}

/-! ### The meaning of a command in each phase -/

theorem exec_of_idle (i : Instr) (hp : s.phase = .idle) : exec i s = grantStep i.cmd i.param s := by
  rw [exec_eq_runCommand, runCommand, hp]

theorem exec_of_send (i : Instr) (hp : s.phase = .send) :
    exec i s = sendStep i.cmd i.param i.data s := by
  rw [exec_eq_runCommand, runCommand, hp]

theorem exec_of_flush (i : Instr) (hp : s.phase = .flush) : exec i s = flushStep i.cmd s := by
  rw [exec_eq_runCommand, runCommand, hp]

theorem exec_of_poll (i : Instr) (hp : s.phase = .poll) : exec i s = pollStep i.cmd s := by
  rw [exec_eq_runCommand, runCommand, hp]

theorem exec_of_check (i : Instr) (hp : s.phase = .check) : exec i s = checkStep i.cmd i.data s := by
  rw [exec_eq_runCommand, runCommand, hp]

theorem exec_of_wait (i : Instr) (hp : s.phase = .wait) : exec i s = waitStep s := by
  rw [exec_eq_runCommand, runCommand, hp]

/-! ### GRANT -/

/-- GRANT takes the free lock for the latched request's host (R109). -/
theorem grantStep_of_free (ho : s.owner = none) (hh : s.req.host = some h) :
    grantStep c p s = .next { s with
      owner := some h
      expLen := predict s.cfg c p
      stage := 1
      doneFlag := false
      inbound := if s.cfg.rxDrainAtStart then [] else s.inbound
      phase := .send
      seqSteps := s.seqSteps + 1 } := by
  rw [grantStep, ho, hh]

/-! ### SEND -/

/-- Stage 1 writes the header frame. -/
theorem stageFrame_of_stage_one (hst : s.stage = 1) :
    stageFrame c p d s = some (buildCmd s.cfg (s.cfg.codeOf c) p) :=
  if_pos hst

/-- Any other stage writes the data packet. -/
theorem stageFrame_of_stage_ne_one (hst : s.stage ≠ 1) :
    stageFrame c p d s = d.map (buildDp s.cfg) := by
  unfold stageFrame
  rw [if_neg hst]
  cases d <;> rfl

/-- An open channel gives its own answer. -/
theorem txWriteAnswer_of_open (hport : s.port ≠ none) : txWriteAnswer s = s.txAnswer := by
  obtain ⟨b, hb⟩ := Option.ne_none_iff_exists'.mp hport
  rw [txWriteAnswer, hb]

/-- A closed channel fails and takes no byte (D36). -/
theorem txWriteAnswer_of_closed (hport : s.port = none) : txWriteAnswer s = .fail 0 := by
  rw [txWriteAnswer, hport]

section send
variable {f : Bytes} (hf : stageFrame c p d s = some f)
include hf

theorem sendStep_of_ok (ha : txWriteAnswer s = .ok) : sendStep c p d s = .next { s with
    rxbuf := [], phase := .flush, outbound := s.outbound ++ f, seqSteps := s.seqSteps + 1 } := by
  rw [sendStep, hf]
  simp only [ha]
  rfl

theorem sendStep_of_pending (ha : txWriteAnswer s = .pending) : sendStep c p d s = .next s := by
  rw [sendStep, hf]
  simp only [ha]

theorem sendStep_of_fail {k : Nat} (ho : s.owner = some h) (ha : txWriteAnswer s = .fail k) :
    sendStep c p d s = .next (afterFinish c h (synth s.cfg) false
      { s with rxbuf := [], outbound := s.outbound ++ f.take k }) := by
  rw [sendStep, hf]
  simp only [ha]
  exact congrArg _ (finish_eq_afterFinish c (synth s.cfg) false
    (s := ({ s with rxbuf := [] } : State).sent (f.take k)) ho)

end send

/-! ### FLUSH -/

theorem flushStep_of_ok (ha : s.txAnswer = .ok) : flushStep c s = .next { s with
    tOrigin := s.now, nextPoll := s.now, phase := .poll, seqSteps := s.seqSteps + 1 } := by
  rw [flushStep, ha]
  rfl

theorem flushStep_of_pending (ha : s.txAnswer = .pending) : flushStep c s = .next s := by
  rw [flushStep, ha]

theorem flushStep_of_fail {k : Nat} (ho : s.owner = some h) (ha : s.txAnswer = .fail k) :
    flushStep c s = .next (afterFinish c h (synth s.cfg) false s) := by
  rw [flushStep, ha]
  exact congrArg _ (finish_eq_afterFinish c (synth s.cfg) false ho)

/-! ### POLL -/

theorem pollStep_of_fits (hfit : s.rxbuf.length + s.inbound.length ≤ s.cfg.rxBufMax) :
    pollStep c s = .next { s with
      rxbuf := s.rxbuf ++ s.inbound, inbound := [], phase := .check, seqSteps := s.seqSteps + 1 } := by
  rw [pollStep, if_neg (by omega)]
  rfl

theorem pollStep_of_overflow (ho : s.owner = some h)
    (hover : s.cfg.rxBufMax < s.rxbuf.length + s.inbound.length) :
    pollStep c s = .next (afterFinish c h (synth s.cfg) true { s with inbound := [] }) := by
  rw [pollStep, if_pos hover]
  exact congrArg _ (finish_eq_afterFinish c (synth s.cfg) true (s := { s with inbound := [] }) ho)

/-! ### CHECK -/

/-- A complete reply starts stage 2 after a base-successful stage 1 of a command with data (R116). -/
theorem checkStep_of_stage_one_ok {r : Resp} (hlen : s.expLen.toNat ≤ s.rxbuf.length)
    (hin : s.inbound = []) (hr : parse s.cfg s.rxbuf = some r) (hst : s.stage = 1)
    (hd : d.isSome = true) (hok : baseOk s.cfg r = true) :
    checkStep c d s = .next { s with stage := 2, phase := .send, seqSteps := s.seqSteps + 1 } := by
  rw [checkStep, if_pos ⟨hlen, hin⟩, stageEnd, hr]
  exact if_pos ⟨hst, hd, hok⟩

/-- A complete reply otherwise is the result (R116, R117). -/
theorem checkStep_of_complete {r : Resp} (ho : s.owner = some h)
    (hlen : s.expLen.toNat ≤ s.rxbuf.length) (hin : s.inbound = []) (hr : parse s.cfg s.rxbuf = some r)
    (hlast : ¬(s.stage = 1 ∧ d.isSome = true ∧ baseOk s.cfg r = true)) :
    checkStep c d s = .next (afterFinish c h r false s) := by
  rw [checkStep, if_pos ⟨hlen, hin⟩, stageEnd, hr, ← finish_eq_afterFinish c r false ho]
  exact if_neg hlast

section incomplete
variable (hinc : ¬(s.expLen.toNat ≤ s.rxbuf.length ∧ s.inbound = []))
include hinc

theorem checkStep_of_timeout (ho : s.owner = some h) (hlate : s.tOrigin + s.req.timeoutMs.toNat ≤ s.now) :
    checkStep c d s = .next (afterFinish c h (synth s.cfg) false s) := by
  rw [checkStep, if_neg hinc, if_pos hlate]
  exact congrArg _ (finish_eq_afterFinish c (synth s.cfg) false ho)

theorem checkStep_of_early (hearly : s.now < s.tOrigin + s.req.timeoutMs.toNat) :
    checkStep c d s = .next { s with
      nextPoll := s.nextPoll + s.cfg.pollMs, phase := .wait, seqSteps := s.seqSteps + 1 } := by
  rw [checkStep, if_neg hinc, if_neg (by omega)]
  rfl

end incomplete

/-! ### WAIT -/

theorem waitStep_of_due (hdue : s.nextPoll ≤ s.now) :
    waitStep s = .next { s with phase := .poll, seqSteps := s.seqSteps + 1 } :=
  if_pos hdue

theorem waitStep_of_not_due (hearly : s.now < s.nextPoll) : waitStep s = .next s :=
  if_neg (by omega)

end Sys2Proof.Machine

namespace Sys2Proof.Proofs
open Sys2Proof.Machine

/-- Settles O19, by the rule of GRANT. -/
theorem commandStarts : Obligations.CommandStarts := by
  unfold Obligations.CommandStarts
  intro i s h hp ho hh
  rw [exec_of_idle i hp, grantStep_of_free ho hh]

/-- Settles O21, by the rule of a completed SEND, in stage 1. -/
theorem stageOneSendsHeader : Obligations.StageOneSendsHeader := by
  unfold Obligations.StageOneSendsHeader
  intro i s hp hst hport ha
  rw [exec_of_send i hp,
    sendStep_of_ok (stageFrame_of_stage_one hst) ((txWriteAnswer_of_open hport).trans ha)]

/-- Settles O22, by the rule of a completed SEND, in stage 2. -/
theorem stageTwoSendsDataPacket : Obligations.StageTwoSendsDataPacket := by
  unfold Obligations.StageTwoSendsDataPacket
  intro i d s hd hp hst hport ha
  have hframe : stageFrame i.cmd i.param i.data s = some (buildDp s.cfg d) := by
    rw [stageFrame_of_stage_ne_one (by rw [hst]; decide), hd, Option.map_some]
  rw [exec_of_send i hp, sendStep_of_ok hframe ((txWriteAnswer_of_open hport).trans ha)]

/-- Settles O23: the frame of either stage, and the three answers of the channel. -/
theorem unfinishedAndFailedWrites : Obligations.UnfinishedAndFailedWrites := by
  unfold Obligations.UnfinishedAndFailedWrites
  intro i s h frame hp ho hstage
  have hframe : stageFrame i.cmd i.param i.data s = some frame := by
    obtain ⟨hst, rfl⟩ | ⟨hst, d, hd, rfl⟩ := hstage
    · exact stageFrame_of_stage_one hst
    · rw [stageFrame_of_stage_ne_one (by rw [hst]; decide), hd, Option.map_some]
  rw [exec_of_send i hp]
  refine ⟨fun hport ha => ?_, fun hport => ?_, fun k hport ha => ?_⟩
  · exact sendStep_of_pending hframe ((txWriteAnswer_of_open hport).trans ha)
  · rw [sendStep_of_fail hframe ho (txWriteAnswer_of_closed hport), List.take_zero, List.append_nil]
  · exact sendStep_of_fail hframe ho ((txWriteAnswer_of_open hport).trans ha)

/-- Settles O24, by the three rules of FLUSH. -/
theorem flushStartsTimers : Obligations.FlushStartsTimers := by
  unfold Obligations.FlushStartsTimers
  intro i s h hp ho
  rw [exec_of_flush i hp]
  exact ⟨flushStep_of_ok, fun k => flushStep_of_fail ho, flushStep_of_pending⟩

/-- Settles O25, by the two rules of POLL. -/
theorem pollTakesHeldBytes : Obligations.PollTakesHeldBytes := by
  unfold Obligations.PollTakesHeldBytes
  intro i s h hp ho
  rw [exec_of_poll i hp]
  exact ⟨pollStep_of_fits, pollStep_of_overflow ho⟩

/-- Settles O26, by the two rules of CHECK for an incomplete reply. -/
theorem incompleteReplyTimesOutOrWaits : Obligations.IncompleteReplyTimesOutOrWaits := by
  unfold Obligations.IncompleteReplyTimesOutOrWaits
  intro i s h hp ho hinc
  have hinc' : ¬(s.expLen.toNat ≤ s.rxbuf.length ∧ s.inbound = []) := fun ⟨hlen, hin⟩ =>
    hinc.elim (fun hshort => by omega) (fun hheld => hheld hin)
  rw [exec_of_check i hp]
  exact ⟨checkStep_of_timeout hinc' ho, checkStep_of_early hinc'⟩

/-- Settles O27, by the two rules of WAIT. -/
theorem waitEndsWhenDue : Obligations.WaitEndsWhenDue := by
  unfold Obligations.WaitEndsWhenDue
  intro i s hp
  rw [exec_of_wait i hp]
  exact ⟨waitStep_of_due, waitStep_of_not_due⟩

/-- Settles O28: without attached data there is no stage 2, so a complete reply is the result. -/
theorem singleStageReplyFinishes : Obligations.SingleStageReplyFinishes := by
  unfold Obligations.SingleStageReplyFinishes
  intro i s h r hd hp ho hlen hin hr
  rw [exec_of_check i hp]
  exact checkStep_of_complete ho hlen hin hr (by simp [hd])

/-- Settles O29, by the rule of CHECK that starts stage 2. -/
theorem successfulStageOneStartsStageTwo : Obligations.SuccessfulStageOneStartsStageTwo := by
  unfold Obligations.SuccessfulStageOneStartsStageTwo
  intro i d s r hd hp hst hlen hin hr hok
  rw [exec_of_check i hp]
  exact checkStep_of_stage_one_ok hlen hin hr hst (by simp [hd]) hok

/-- Settles O30: neither stage 2 nor an unsuccessful response starts another stage. -/
theorem twoStageFinalReplyFinishes : Obligations.TwoStageFinalReplyFinishes := by
  unfold Obligations.TwoStageFinalReplyFinishes
  intro i d s h r _ hp ho hlen hin hr hfinal
  rw [exec_of_check i hp]
  refine checkStep_of_complete ho hlen hin hr ?_
  rintro ⟨hst, -, hok⟩
  obtain htwo | hbad := hfinal
  · rw [hst] at htwo
    exact absurd htwo (by decide)
  · rw [hok] at hbad
    exact absurd hbad (by decide)

end Sys2Proof.Proofs
end

section
/-!
SUPPORT. The invariant `Inv` (Sys2Proof/Safety.lean): its parts as propositions, one lemma per way a move changes
what it reads, and that every move of every agent keeps it.
-/

namespace Sys2Proof.Machine

/-! ### The parts of the invariant as propositions -/

/-- What the invariant says of the transaction that host `h` runs. -/
structure Running (s : State) (h : HostId) : Prop where
  phase : s.phase ≠ .idle
  stage : s.stage ≠ 0
  request : requestOk s.cfg h s.req = true
  expLen : expLenOk s = true
  data : s.stage = 1 ∨ s.req.data.isSome = true
  done : s.doneFlag = false
  mailbox : mapGet s.mailbox h = none

/-- What the invariant says of a request `r` that host `g` has waiting. -/
structure Waiting (s : State) (g : HostId) (r : Request) : Prop where
  request : requestOk s.cfg g r = true
  mailbox : mapGet s.mailbox g = none
  owner : s.owner ≠ some g

theorem requestOk_iff {cfg : Config} {h : HostId} {r : Request} :
    requestOk cfg h r = true ↔ r.host = some h ∧ checkRequest cfg r.code r.data = .noReject := by
  simp [requestOk]

theorem runningOk_of_free {s : State} (ho : s.owner = none) :
    runningOk s = true ↔ s.phase = .idle ∧ s.stage = 0 := by
  simp [runningOk, ho]

theorem runningOk_of_owner {s : State} {h : HostId} (ho : s.owner = some h) :
    runningOk s = true ↔ Running s h := by
  simp only [runningOk, ho, Bool.and_eq_true, Bool.or_eq_true, bne_iff_ne, beq_iff_eq,
    Bool.not_eq_true', Option.isNone_iff_eq_none]
  constructor
  · rintro ⟨⟨⟨⟨⟨⟨hp, hst⟩, hreq⟩, hexp⟩, hdata⟩, hdone⟩, hmail⟩
    exact ⟨hp, hst, hreq, hexp, hdata, hdone, hmail⟩
  · rintro ⟨hp, hst, hreq, hexp, hdata, hdone, hmail⟩
    exact ⟨⟨⟨⟨⟨⟨hp, hst⟩, hreq⟩, hexp⟩, hdata⟩, hdone⟩, hmail⟩

theorem mapsOk_iff {s : State} : mapsOk s = true ↔
    mapWf s.waiters = true ∧ mapWf s.mailbox = true ∧ mapWf s.clients = true ∧ mapWf s.taken = true := by
  simp [mapsOk, and_assoc]

/-- A pair of a canonical map is what the map binds. -/
theorem mapGet_of_mem {α : Type} {m : List (HostId × α)} (hw : mapWf m = true) {p : HostId × α}
    (hp : p ∈ m) : mapGet m p.1 = some p.2 := by
  induction m with
  | nil => simp at hp
  | cons q m ih =>
    obtain ⟨k, v⟩ := q
    obtain ⟨htail, hbelow⟩ := (mapWf_cons_iff k v m).mp hw
    obtain rfl | hp := List.mem_cons.mp hp
    · simp [mapGet_cons]
    · rw [mapGet_cons, if_neg (hbelow p hp).ne', ih htail hp]

theorem waitersOk_iff {s : State} (hw : mapWf s.waiters = true) :
    waitersOk s = true ↔ ∀ g r, mapGet s.waiters g = some r → Waiting s g r := by
  simp only [waitersOk, List.all_eq_true, Bool.and_eq_true, bne_iff_ne, Option.isNone_iff_eq_none]
  constructor
  · intro hall g r hg
    obtain ⟨⟨hreq, hmail⟩, howner⟩ := hall (g, r) (mem_of_mapGet hg)
    exact ⟨hreq, hmail, howner⟩
  · intro hall q hq
    obtain ⟨hreq, hmail, howner⟩ := hall q.1 q.2 (mapGet_of_mem hw hq)
    exact ⟨⟨hreq, hmail⟩, howner⟩

section invariant
variable {s t : State} {h : HostId}

theorem Inv.running_of_owner (hi : Inv s) (ho : s.owner = some h) : Running s h :=
  (runningOk_of_owner ho).mp hi.running

theorem Inv.waiting_of_waiter (hi : Inv s) {r : Request} (hw : mapGet s.waiters h = some r) :
    Waiting s h r :=
  (waitersOk_iff (mapsOk_iff.mp hi.maps).1).mp hi.waiters h r hw

/-! ### The ways in which a move changes what the invariant reads -/

/-- A move that changes only the host maps, and what the invariant does not read. -/
theorem Inv.of_maps (hi : Inv s)
    (hframer : t.toFramer = { s.toFramer with waiters := t.waiters, mailbox := t.mailbox })
    (hcfg : t.cfg = s.cfg) (hmaps : mapsOk t = true)
    (howner : ∀ h, s.owner = some h → mapGet t.mailbox h = none)
    (hwaiters : ∀ g r, mapGet t.waiters g = some r → Waiting { s with mailbox := t.mailbox } g r) :
    Inv t := by
  obtain ⟨⟨owner, w, phase, stage, req, expLen, rxbuf, tOrigin, nextPoll, result, doneFlag, mb, devinfo,
    capacity⟩, channel, cfg, now, clients, taken, reply, moves, freeMoves, seqSteps⟩ := t
  obtain ⟨rfl, -, rfl, rfl, rfl, rfl, rfl, rfl, rfl, rfl, rfl, -, rfl, rfl⟩ := Framer.mk.inj hframer
  subst hcfg
  refine ⟨hi.config, hmaps, ?running, ?waiters, hi.result, hi.devinfo, hi.rxbuf, hi.capacity⟩
  case running =>
    cases ho : s.owner with
    | none => exact (runningOk_of_free (by rfl)).mpr ((runningOk_of_free ho).mp hi.running)
    | some h =>
      obtain ⟨hp, hst, hreq, hexp, hdata, hdone, -⟩ := hi.running_of_owner ho
      exact (runningOk_of_owner (by rfl)).mpr
        ⟨hp, hst, hreq, hexp, hdata, hdone, howner h ho⟩
  case waiters =>
    refine (waitersOk_iff (mapsOk_iff.mp hmaps).1).mpr fun g r hg => ?_
    obtain ⟨hreq, hmail, hown⟩ := hwaiters g r hg
    exact ⟨hreq, hmail, hown⟩

/-- A move that changes nothing the invariant reads but the client maps. -/
theorem Inv.of_framer_eq (hi : Inv s) (hframer : t.toFramer = s.toFramer) (hcfg : t.cfg = s.cfg)
    (hclients : mapWf t.clients = true) (htaken : mapWf t.taken = true) : Inv t := by
  obtain ⟨hw, hm, -, -⟩ := mapsOk_iff.mp hi.maps
  have hwaiters : t.waiters = s.waiters := congrArg Framer.waiters hframer
  have hmailbox : t.mailbox = s.mailbox := congrArg Framer.mailbox hframer
  refine hi.of_maps (by rw [hwaiters, hmailbox]; exact hframer) hcfg
    (mapsOk_iff.mpr ⟨hwaiters ▸ hw, hmailbox ▸ hm, hclients, htaken⟩) (fun h ho => ?_) (fun g r hg => ?_)
  · rw [hmailbox]; exact (hi.running_of_owner ho).mailbox
  · rw [hmailbox]; rw [hwaiters] at hg; exact hi.waiting_of_waiter hg

/-- The model's own move fields are nothing to the invariant. -/
theorem Inv.setMoves (hi : Inv s) (ms : List Move) (k : Nat) :
    Inv { s with moves := ms, freeMoves := k } := by
  obtain ⟨-, -, hc, ht⟩ := mapsOk_iff.mp hi.maps
  exact hi.of_framer_eq rfl rfl hc ht

/-- A step of the running transaction that does not end it. -/
theorem Inv.of_running (hi : Inv s) (ho : s.owner = some h)
    (hframer : t.toFramer = { s.toFramer with
      phase := t.phase, stage := t.stage, rxbuf := t.rxbuf, tOrigin := t.tOrigin, nextPoll := t.nextPoll })
    (hcfg : t.cfg = s.cfg) (hclients : t.clients = s.clients) (htaken : t.taken = s.taken)
    (hp : t.phase ≠ .idle) (hst : t.stage = s.stage ∨ t.stage = 2 ∧ s.req.data.isSome = true)
    (hrx : t.rxbuf.length ≤ s.cfg.rxBufMax) : Inv t := by
  obtain ⟨⟨owner, waiters, phase, stage, req, expLen, rxbuf, tOrigin, nextPoll, result, doneFlag, mailbox,
    devinfo, capacity⟩, channel, cfg, now, clients, taken, reply, moves, freeMoves, seqSteps⟩ := t
  obtain ⟨rfl, rfl, -, -, rfl, rfl, -, -, -, rfl, rfl, rfl, rfl, rfl⟩ := Framer.mk.inj hframer
  subst hcfg hclients htaken
  refine ⟨hi.config, hi.maps, (runningOk_of_owner (by exact ho)).mpr ?_, hi.waiters, hi.result,
    hi.devinfo, hrx, hi.capacity⟩
  obtain ⟨-, hst', hreq, hexp, hdata, hdone, hmail⟩ := hi.running_of_owner ho
  obtain hkeep | ⟨htwo, hsome⟩ := hst
  · exact ⟨hp, hkeep ▸ hst', hreq, hexp, hkeep ▸ hdata, hdone, hmail⟩
  · exact ⟨hp, fun h0 => by rw [htwo] at h0; exact absurd h0 (by decide), hreq, hexp, .inr hsome, hdone,
      hmail⟩

/-- A step that frees the lock and delivers a result to its holder. -/
theorem Inv.of_release (hi : Inv s) (ho : s.owner = some h) {res : Result} {rx : Bytes}
    {info : Option DevInfo}
    (hframer : t.toFramer = { s.toFramer with
      owner := none, phase := .idle, stage := 0, doneFlag := true, result := res, rxbuf := rx,
      devinfo := info, mailbox := mapSet s.mailbox h res })
    (hcfg : t.cfg = s.cfg) (hclients : t.clients = s.clients) (htaken : t.taken = s.taken)
    (hres : resultOk t = true) (hinfo : devinfoOk t = true) (hrx : rx.length ≤ s.cfg.rxBufMax) :
    Inv t := by
  obtain ⟨f, channel, cfg, now, clients, taken, reply, moves, freeMoves, seqSteps⟩ := t
  subst hcfg hclients htaken
  obtain rfl : f = _ := hframer
  obtain ⟨hw, hm, hc, ht⟩ := mapsOk_iff.mp hi.maps
  refine ⟨hi.config, mapsOk_iff.mpr ⟨hw, mapWf_mapSet _ _ _ hm, hc, ht⟩,
    (runningOk_of_free (by rfl)).mpr ⟨rfl, rfl⟩,
    (waitersOk_iff (by exact hw)).mpr fun g r hg => ?_, hres, hinfo, hrx, hi.capacity⟩
  obtain ⟨hreq, hmail, hown⟩ := hi.waiting_of_waiter hg
  have hne : g ≠ h := fun e => hown (e ▸ ho)
  exact ⟨hreq, (mapGet_mapSet_of_ne _ _ hne).trans hmail, by simp⟩

/-! ### The host port, the client tasks and the environment -/

theorem Inv.take (hi : Inv s) (h : HostId) : Inv (takeOp h s) := by
  obtain ⟨hw, hm, hc, ht⟩ := mapsOk_iff.mp hi.maps
  cases hg : mapGet s.mailbox h with
  | none => simpa [takeOp, hg] using hi
  | some r =>
    simp only [takeOp, hg]
    refine hi.of_maps rfl rfl (mapsOk_iff.mpr ⟨hw, mapWf_mapErase _ _ hm, hc, mapWf_mapSet _ _ _ ht⟩)
      (fun g ho => ?_) (fun g r hwait => ?_)
    · simp [mapGet_mapErase, (hi.running_of_owner ho).mailbox]
    · obtain ⟨hreq, hmail, hown⟩ := hi.waiting_of_waiter hwait
      exact ⟨hreq, by simp [mapGet_mapErase, hmail], hown⟩

/-- Delivering a result to a host that neither holds the lock nor waits. -/
theorem Inv.deliver (hi : Inv s) (ho : s.owner ≠ some h) (hw : mapGet s.waiters h = none) (r : Result) :
    Inv (s.deliver h r) := by
  obtain ⟨hww, hm, hc, ht⟩ := mapsOk_iff.mp hi.maps
  refine hi.of_maps rfl rfl (mapsOk_iff.mpr ⟨hww, mapWf_mapSet _ _ _ hm, hc, ht⟩) (fun g hg => ?_)
    (fun g q hwait => ?_)
  · have hne : g ≠ h := fun e => ho (e ▸ hg)
    exact (mapGet_mapSet_of_ne _ _ hne).trans (hi.running_of_owner hg).mailbox
  · obtain ⟨hreq, hmail, hown⟩ := hi.waiting_of_waiter hwait
    have hne : g ≠ h := fun e => by rw [e, State.deliver_waiters, hw] at hwait; cases hwait
    exact ⟨hreq, (mapGet_mapSet_of_ne _ _ hne).trans hmail, hown⟩

/-- A waiter leaves. -/
theorem Inv.eraseWaiter (hi : Inv s) (h : HostId) : Inv { s with waiters := mapErase s.waiters h } := by
  obtain ⟨hw, hm, hc, ht⟩ := mapsOk_iff.mp hi.maps
  refine hi.of_maps rfl rfl (mapsOk_iff.mpr ⟨mapWf_mapErase _ _ hw, hm, hc, ht⟩)
    (fun g hg => (hi.running_of_owner hg).mailbox) (fun g q hwait => ?_)
  rw [mapGet_mapErase] at hwait
  split at hwait
  · cases hwait
  · exact hi.waiting_of_waiter hwait

theorem outstanding_eq_false_iff : outstanding s h = false ↔
    mapGet s.waiters h = none ∧ s.owner ≠ some h ∧ mapGet s.mailbox h = none := by
  simp [outstanding, and_assoc]

theorem Inv.submit {code : Word16} {param : Word32} {data : Option Bytes} {timeoutMs : Word32}
    (hi : Inv s) (hn : submitOp h code param data timeoutMs s = .next t) : Inv t := by
  obtain ⟨hw, hm, hc, ht⟩ := mapsOk_iff.mp hi.maps
  obtain ⟨hout, ⟨hck, rfl⟩ | ⟨-, rfl⟩⟩ := submitOp_next hn
  all_goals obtain ⟨hnowait, howner, hmail⟩ := outstanding_eq_false_iff.mp hout
  · have hmb (g : HostId) : mapGet (mapErase s.mailbox h) g = mapGet s.mailbox g := by
      rw [mapErase_of_absent _ _ hmail]
    refine hi.of_maps rfl rfl
      (mapsOk_iff.mpr ⟨mapWf_mapSet _ _ _ hw, mapWf_mapErase _ _ hm, hc, ht⟩)
      (fun g hg => (hmb g).trans (hi.running_of_owner hg).mailbox) (fun g q hwait => ?_)
    rw [mapGet_mapSet] at hwait
    split at hwait
    · cases hwait
      subst_vars
      exact ⟨requestOk_iff.mpr ⟨rfl, hck⟩, (hmb g).trans hmail, howner⟩
    · obtain ⟨hreq, hmail, hown⟩ := hi.waiting_of_waiter hwait
      exact ⟨hreq, (hmb g).trans hmail, hown⟩
  · exact hi.deliver howner hnowait _

theorem Inv.cancel (hi : Inv s) (h : HostId) : Inv (cancelOp h s) := by
  by_cases hrun : s.owner = some h ∧ s.phase ≠ .idle
  · obtain ⟨ho, hp⟩ := hrun
    rw [cancelOp_of_running ho hp]
    exact hi.of_release ho rfl rfl rfl rfl rfl hi.devinfo (Nat.zero_le _)
  by_cases hwait : mapGet s.waiters h = none
  · have hnone : cancelOp h s = s := by simp [cancelOp, hrun, hwait]
    rwa [hnone]
  · obtain ⟨r, hr⟩ := Option.ne_none_iff_exists'.mp hwait
    have howner := (hi.waiting_of_waiter hr).owner
    rw [cancelOp_of_waiting howner hwait]
    exact (hi.eraseWaiter h).deliver howner (by simp) _

theorem Inv.setTask (hi : Inv s) (h : HostId) (task : Task) : Inv (s.setTask h task) := by
  obtain ⟨-, -, hc, ht⟩ := mapsOk_iff.mp hi.maps
  exact hi.of_framer_eq rfl rfl (mapWf_mapSet _ _ _ hc) ht

theorem Inv.setPort (hi : Inv s) (b : Option Word32) (held : Bytes) (reply : Option PortReply) :
    Inv { s with port := b, inbound := held, reply := reply } := by
  obtain ⟨-, -, hc, ht⟩ := mapsOk_iff.mp hi.maps
  exact hi.of_framer_eq rfl rfl hc ht

theorem Inv.client (hi : Inv s) (hn : clientOp h s = .next t) : Inv t := by
  unfold clientOp at hn
  split at hn
  · cases hn; exact hi -- no task
  · cases hn; exact hi -- a finished task
  · exact (hi.setTask h _).submit hn -- SUBMIT
  · split at hn <;> cases hn -- TAKE
    · exact (hi.take h).setTask h _
    · exact hi
  · split at hn <;> cases hn -- a delay
    · exact hi.setTask h _
    · exact hi
  · split at hn <;> rename_i hopen <;> cases hn -- PORT_OPEN
    · rw [portOpenOp, if_pos hopen]
      exact (hi.setPort _ _ s.reply).setTask h _
    · exact hi.setTask h _
  · cases hn; exact (hi.setPort none _ s.reply).setTask h _ -- PORT_CLOSE

end invariant

/-! ### The sequencer -/

/-- Everything a step of command `c` can answer with a next state, by name (44_transaction_sequencer.md R109 to
R117); `runCommand_seqStep` ties it to the model. -/
inductive SeqStep (c : Cmd) (p : Word32) (d : Option Bytes) (s : State) : State → Prop
  | waits : SeqStep c p d s s
  | grants {o : HostId} (hp : s.phase = .idle) (ho : s.owner = none) (hh : s.req.host = some o) :
      SeqStep c p d s { s with
        owner := some o
        expLen := predict s.cfg c p
        stage := 1
        doneFlag := false
        inbound := if s.cfg.rxDrainAtStart then [] else s.inbound
        phase := .send
        seqSteps := s.seqSteps + 1 }
  | sends {f : Bytes} (hp : s.phase = .send) (hf : stageFrame c p d s = some f) :
      SeqStep c p d s { s with
        rxbuf := [], phase := .flush, outbound := s.outbound ++ f, seqSteps := s.seqSteps + 1 }
  | sendFails {f : Bytes} {k : Nat} (hp : s.phase = .send) (hf : stageFrame c p d s = some f) :
      SeqStep c p d s (finish c (synth s.cfg) false
        { s with rxbuf := [], outbound := s.outbound ++ f.take k, seqSteps := s.seqSteps + 1 })
  | flushes (hp : s.phase = .flush) :
      SeqStep c p d s { s with
        tOrigin := s.now, nextPoll := s.now, phase := .poll, seqSteps := s.seqSteps + 1 }
  | flushFails (hp : s.phase = .flush) : SeqStep c p d s (finish c (synth s.cfg) false s.counted)
  | overflows (hp : s.phase = .poll) :
      SeqStep c p d s (finish c (synth s.cfg) true
        { s with inbound := [], seqSteps := s.seqSteps + 1 })
  | polls (hp : s.phase = .poll) (hfit : s.rxbuf.length + s.inbound.length ≤ s.cfg.rxBufMax) :
      SeqStep c p d s { s with
        rxbuf := s.rxbuf ++ s.inbound, inbound := [], phase := .check, seqSteps := s.seqSteps + 1 }
  | startsStageTwo (hp : s.phase = .check) (hst : s.stage = 1) (hd : d.isSome = true) :
      SeqStep c p d s { s with stage := 2, phase := .send, seqSteps := s.seqSteps + 1 }
  | completes {r : Resp} (hp : s.phase = .check) (hr : parse s.cfg s.rxbuf = some r) :
      SeqStep c p d s (finish c r false s.counted)
  | timesOut (hp : s.phase = .check) : SeqStep c p d s (finish c (synth s.cfg) false s.counted)
  | schedules (hp : s.phase = .check) (hearly : s.now < s.tOrigin + s.req.timeoutMs.toNat) :
      SeqStep c p d s { s with
        nextPoll := s.nextPoll + s.cfg.pollMs, phase := .wait, seqSteps := s.seqSteps + 1 }
  | resumes (hp : s.phase = .wait) (hdue : s.nextPoll ≤ s.now) :
      SeqStep c p d s { s with phase := .poll, seqSteps := s.seqSteps + 1 }

/-- A step of a command is one of the named ones. -/
theorem runCommand_seqStep {c : Cmd} {p : Word32} {d : Option Bytes} {s t : State}
    (hn : runCommand c p d s = .next t) : SeqStep c p d s t := by
  rcases runCommand_next hn with rfl | ⟨hp, ho, o, hh, rfl⟩ | ⟨hp, f, hf, -, rfl⟩ |
    ⟨hp, f, k, hf, -, rfl⟩ | ⟨hp, -, rfl⟩ | ⟨hp, -, rfl⟩ | ⟨hp, -, rfl⟩ | ⟨hp, hfit, rfl⟩ |
    ⟨hp, -, -, r, -, hst, hd, -, rfl⟩ | ⟨hp, -, -, r, hr, -, rfl⟩ | ⟨hp, -, -, rfl⟩ |
    ⟨hp, -, hearly, rfl⟩ | ⟨hp, hdue, rfl⟩
  · exact .waits
  · exact .grants hp ho hh
  · exact .sends hp hf
  · exact .sendFails (k := k) hp hf
  · exact .flushes hp
  · exact .flushFails hp
  · exact .overflows hp
  · exact .polls hp hfit
  · exact .startsStageTwo hp hst hd
  · exact .completes hp hr
  · exact .timesOut hp
  · exact .schedules hp hearly
  · exact .resumes hp hdue

section sequencer
variable {s t : State} {h : HostId}

/-- The decoded device information has 16 serial bytes (R96). -/
theorem serial_length_of_decodeInit {b : Bytes} {v : DevInfo} (hb : b.length = 24)
    (hv : decodeInit b = some v) : v.serial.length = 16 := by
  unfold decodeInit at hv
  split at hv <;> cases hv
  simp [serialBytes, slice_length, hb]

/-- The device information stays well formed over FINISH (R98). -/
theorem devinfoOk_finish {c : Cmd} {r : Resp} {ovf : Bool} (hinfo : devinfoOk s = true) :
    devinfoOk (finish c r ovf s) = true := by
  simp only [devinfoOk, finish_devinfo]
  split
  · rfl
  · rename_i v hv
    have hold : ∀ v, s.devinfo = some v → (v.serial.length == 16) = true := by
      intro v hv
      simpa [devinfoOk, hv] using hinfo
    unfold devinfoAfter at hv
    split at hv
    · split at hv
      · rename_i hok
        cases hd : r.dp with
        | none => simp [classOk, hd] at hok
        | some b =>
          have hlen : b.length = 24 := by
            simp only [classOk, hd, initQualifier, Bool.and_eq_true, beq_iff_eq] at hok
            exact hok.2.1
          rw [hd] at hv
          simpa using serial_length_of_decodeInit hlen hv
      · exact hold v hv
    · cases hv
    · exact hold v hv

/-- The result of FINISH is well formed (R93, R95, R117). -/
theorem resultOk_finish {c : Cmd} {r : Resp} {ovf : Bool} : resultOk (finish c r ovf s) = true := by
  have hkind := kindOf_ne_construction s.cfg r (classOf s.cfg c)
  have hnone := kindOf_noError_iff s.cfg r (classOf s.cfg c)
  have hbase := baseOk_of_classOk (cfg := s.cfg) (r := r) (cls := classOf s.cfg c)
  have himp : (!classOk s.cfg r (classOf s.cfg c) || baseOk s.cfg r) = true := by
    cases hc : classOk s.cfg r (classOf s.cfg c) <;> simp_all
  have hiff : ((kindOf s.cfg r (classOf s.cfg c)).1 == .noError) = classOk s.cfg r (classOf s.cfg c) := by
    rw [Bool.eq_iff_iff, beq_iff_eq, hnone]
  simp [resultOk, resultOf, hkind, himp, hiff]

/-- FINISH keeps the invariant. -/
theorem Inv.finish (hi : Inv s) (ho : s.owner = some h) (c : Cmd) (r : Resp) (ovf : Bool) :
    Inv (finish c r ovf s) := by
  refine hi.of_release ho (res := resultOf s.cfg r (classOf s.cfg c) (s.stage == 2) ovf)
    (info := devinfoAfter s.cfg c r s.devinfo) ?_ (finish_cfg ..) (finish_clients ..) (finish_taken ..) resultOk_finish (devinfoOk_finish hi.devinfo)
    hi.rxbuf
  rw [finish_eq, ho]

/-- FINISH from a state that differs from a running one in the receive buffer, the channel's bytes and the
step counter. -/
theorem Inv.finish_of_bytes (hi : Inv s) (ho : s.owner = some h) {rx : Bytes}
    (hrx : rx.length ≤ s.cfg.rxBufMax) (out held : Bytes) (n : Nat) (c : Cmd) (r : Resp) (ovf : Bool) :
    Inv (Machine.finish c r ovf
      { s with rxbuf := rx, outbound := out, inbound := held, seqSteps := n }) := by
  refine Inv.finish (h := h) ?inv ?owner c r ovf
  case inv => exact hi.of_running ho rfl rfl rfl rfl (hi.running_of_owner ho).phase (.inl rfl) hrx
  case owner => exact ho

/-- A sequencer step outside IDLE, of a command whose data is the running request's, keeps the invariant. -/
theorem Inv.seqStep {c : Cmd} {p : Word32} {d : Option Bytes} (hi : Inv s) (ho : s.owner = some h)
    (hd : d = s.req.data) (hstep : SeqStep c p d s t) : Inv t := by
  cases hstep with
  | waits => exact hi
  | grants _ hfree _ => rw [ho] at hfree; cases hfree
  | sends _ _ => exact hi.of_running ho rfl rfl rfl rfl (by simp) (.inl rfl) (Nat.zero_le _)
  | sendFails _ _ => exact hi.finish_of_bytes ho (rx := []) (Nat.zero_le _) _ _ _ _ _ _
  | flushes _ => exact hi.of_running ho rfl rfl rfl rfl (by simp) (.inl rfl) hi.rxbuf
  | flushFails _ => exact hi.finish_of_bytes ho hi.rxbuf _ _ _ _ _ _
  | overflows _ => exact hi.finish_of_bytes ho hi.rxbuf _ _ _ _ _ _
  | polls _ hfit =>
    exact hi.of_running ho rfl rfl rfl rfl (by simp) (.inl rfl) (by simpa using hfit)
  | startsStageTwo _ _ hsome =>
    exact hi.of_running ho rfl rfl rfl rfl (by simp) (.inr ⟨rfl, hd ▸ hsome⟩) hi.rxbuf
  | completes _ _ => exact hi.finish_of_bytes ho hi.rxbuf _ _ _ _ _ _
  | timesOut _ => exact hi.finish_of_bytes ho hi.rxbuf _ _ _ _ _ _
  | schedules _ _ => exact hi.of_running ho rfl rfl rfl rfl (by simp) (.inl rfl) hi.rxbuf
  | resumes _ _ => exact hi.of_running ho rfl rfl rfl rfl (by simp) (.inl rfl) hi.rxbuf

/-- What the sequencer's move in a running transaction is: a named step of the decoded instruction, which
carries the request's code, parameter and data. -/
theorem seqMove_seqStep (hp : s.phase ≠ .idle) (hn : seqMove s = .next t) :
    ∃ i : Instr, cmdOfCode s.cfg s.req.code = some i.cmd ∧ i.param = s.req.param ∧
      i.data = s.req.data ∧ SeqStep i.cmd i.param i.data s t := by
  rw [seqMove_of_running hp] at hn
  obtain ⟨i, hreq, hcmd⟩ := runReq_next hn
  obtain ⟨-, hc, hparam, hdata, -⟩ := decodeRequest_ok hreq
  exact ⟨i, hc, hparam, hdata, runCommand_seqStep hcmd⟩

theorem Inv.seq (hi : Inv s) (hn : seqMove s = .next t) : Inv t := by
  by_cases hp : s.phase = .idle
  · simp only [seqMove, hp] at hn
    cases hn
    exact hi
  · obtain ⟨h, ho⟩ := hi.exists_owner hp
    obtain ⟨i, -, -, hdata, hstep⟩ := seqMove_seqStep hp hn
    exact hi.seqStep ho hdata hstep

/-- The GRANT of a waiter on the free lock, as one record update (R109). -/
theorem grantMove_of_free (hi : Inv s) (ho : s.owner = none) {r : Request}
    (hw : mapGet s.waiters h = some r) :
    ∃ c, cmdOfCode s.cfg r.code = some c ∧ grantMove h s = .next { s with
      waiters := mapErase s.waiters h
      owner := some h
      req := r
      expLen := predict s.cfg c r.param
      stage := 1
      doneFlag := false
      inbound := if s.cfg.rxDrainAtStart then [] else s.inbound
      phase := .send
      seqSteps := s.seqSteps + 1 } := by
  obtain ⟨hhost, hck⟩ := hi.waiter_request hw
  obtain ⟨i, hreq, hc, hparam, -⟩ := instrOf_of_check hck
  have hp := hi.owner_eq_none_iff.mp ho
  refine ⟨i.cmd, hc, ?_⟩
  rw [grantMove_of_waiting ho hp hw, runReq_of_instrOf (i := i) hreq, 
    exec_of_idle (s := s.latch h r) i hp, grantStep_of_free (s := s.latch h r) ho hhost, hparam]
  rfl

theorem Inv.grant (hi : Inv s) (hn : grantMove h s = .next t) : Inv t := by
  obtain rfl | ⟨ho, -, r, hw, -⟩ := grantMove_next hn
  · exact hi
  obtain ⟨c, hc, heq⟩ := grantMove_of_free hi ho hw
  rw [heq] at hn
  cases hn
  obtain ⟨hww, hm, hcl, ht⟩ := mapsOk_iff.mp hi.maps
  obtain ⟨hreq, hmail, -⟩ := hi.waiting_of_waiter hw
  have hexp : expLenOk { s with req := r, expLen := predict s.cfg c r.param } = true := by
    simp [expLenOk, hc]
  have hres : resultOk { s with doneFlag := false } = true := by
    have := hi.result
    simp_all [resultOk]
  refine ⟨hi.config, mapsOk_iff.mpr ⟨mapWf_mapErase _ _ hww, hm, hcl, ht⟩,
    (runningOk_of_owner (by rfl)).mpr ⟨by simp, by simp, hreq, hexp, .inl rfl, rfl, hmail⟩,
    (waitersOk_iff (mapWf_mapErase _ _ hww)).mpr fun g q hg => ?_, hres, hi.devinfo, hi.rxbuf,
    hi.capacity⟩
  rw [mapGet_mapErase] at hg
  split at hg
  · cases hg
  · rename_i hne
    obtain ⟨hreq, hmail, -⟩ := hi.waiting_of_waiter hg
    exact ⟨hreq, hmail, by simpa [eq_comm] using hne⟩

/-- Every move of every agent keeps the invariant. -/
theorem Inv.perform {m : Move} (hi : Inv s) (hn : perform m s = .next t) : Inv t := by
  obtain ⟨-, -, hc, ht⟩ := mapsOk_iff.mp hi.maps
  cases m with
  | submit h code param data timeoutMs => exact hi.submit hn
  | cancel h => cases hn; exact hi.cancel h
  | take h => cases hn; exact hi.take h
  | readReg h n => cases hn; exact hi.of_framer_eq rfl rfl hc ht
  | readValue h cls =>
    obtain rfl | ⟨v, rfl⟩ := readValueOp_next hn
    · exact hi
    · exact hi.of_framer_eq rfl rfl hc ht
  | portOpen h baud =>
    cases hn
    unfold portOpenOp
    split
    · exact hi.setPort _ _ _
    · exact hi.of_framer_eq rfl rfl hc ht
  | portClose h => cases hn; exact hi.setPort none _ s.reply
  | start h op =>
    cases hn
    unfold startOp
    split
    · exact hi.setTask h _
    · exact hi
  | client h => exact hi.client hn
  | grant h => exact hi.grant hn
  | seq => exact hi.seq hn
  | channel a openOk keeps => cases hn; exact hi.of_framer_eq rfl rfl hc ht
  | device b => cases hn; exact hi.of_framer_eq rfl rfl hc ht
  | tick => cases hn; exact hi.of_framer_eq rfl rfl hc ht
  | reset => rw [((State.resetOp_eq_next_iff s t).mp hn).2]; exact hi

end sequencer

end Sys2Proof.Machine

namespace Sys2Proof.Proofs
open Sys2Proof.Machine

/-- Settles O45: at reset every map is empty and the lock is free. -/
theorem resetMeetsInvariant : Obligations.ResetMeetsInvariant := by
  unfold Obligations.ResetMeetsInvariant
  exact fun cfg hwf => ⟨hwf, rfl, rfl, rfl, rfl, rfl, Nat.zero_le _, rfl⟩

/-- Settles O46: a step is the next move's, and every move keeps the invariant. -/
theorem stepKeepsInvariant : Obligations.StepKeepsInvariant := by
  unfold Obligations.StepKeepsInvariant
  intro s t hi hn
  obtain ⟨ms, k, heq⟩ := nextMove_snd s
  rw [step, heq] at hn
  exact (hi.setMoves ms k).perform hn

/-- Settles O20: GRANT's rule, for the command of the request's code. -/
theorem grantPicksWaiter : Obligations.GrantPicksWaiter := by
  unfold Obligations.GrantPicksWaiter
  intro s h r hi ho hw
  obtain ⟨c, hc, heq⟩ := grantMove_of_free hi ho hw
  exact ⟨c, codeOf_of_cmdOfCode hc, heq⟩

end Sys2Proof.Proofs
end

section
/-!
SUPPORT. Classification (42_response_parser.md R92 to R99): the error code and the kinds by the branch that
gives them, class success and VALUE by class, and the decoded device information.
-/

namespace Sys2Proof.Machine

variable {cfg : Config} {r : Resp} {cls : RespClass}

/-! ### The error code and the kinds -/

theorem errorCode_of_badChecksum (hck : r.ckOk = false) : errorCode cfg r = .invalidChecksum := by
  simp [errorCode, hck]

section
variable (hwf : cfg.wf = true) (hck : r.ckOk = true)
include hwf hck

theorem errorCode_of_userId (hlow : 0 ≤ r.param.toInt) (hhigh : r.param.toInt < 0x1001) :
    errorCode cfg r = .duplicateFingerprint r.param := by
  obtain ⟨-, -, -, -, -, -, -, hdup, -⟩ := Config.wf_rows hwf
  simp [errorCode, hck, hdup, hlow, hhigh]

theorem errorCode_of_deviceCode (hout : r.param.toInt < 0 ∨ 0x1001 ≤ r.param.toInt) :
    errorCode cfg r = .deviceCode r.param := by
  obtain ⟨-, -, -, -, -, -, -, hdup, -⟩ := Config.wf_rows hwf
  have hrange : ¬(0 ≤ r.param.toInt ∧ r.param.toInt < 0x1001) := by omega
  simp [errorCode, hck, hdup, hrange]

end

theorem kindOf_of_synth (hs : r.synth = true) : kindOf cfg r cls = (.communication, r.param) := by
  simp [kindOf, hs]

theorem kindOf_of_classOk (hs : r.synth = false) (hok : classOk cfg r cls = true) :
    kindOf cfg r cls = (.noError, 0) := by
  simp [kindOf, hs, hok]

/-- The kind of an unsuccessful received response is that of its error code (R93). -/
theorem kindOf_of_not_classOk (hs : r.synth = false) (hok : classOk cfg r cls = false) :
    kindOf cfg r cls = match errorCode cfg r with
      | .invalidChecksum => (.invalidChecksum, 0)
      | .duplicateFingerprint u => (.duplicate, u)
      | .deviceCode v => (.device, v) := by
  unfold kindOf
  rw [hs, hok]
  cases errorCode cfg r <;> rfl

/-! ### Class success -/

/-- Every class but INIT and FASTSEARCH asks for base success alone (R95). -/
theorem classOk_of_plain (hinit : cls ≠ .init) (hfast : cls ≠ .fastSearch) :
    classOk cfg r cls = baseOk cfg r := by
  cases cls <;> simp_all [classOk]

theorem classOk_fastSearch_iff :
    classOk cfg r .fastSearch = true ↔ baseOk cfg r = true ∧ r.param = cfg.fastSearchOk := by
  simp [classOk]

theorem classOk_init_iff : classOk cfg r .init = true ↔
    baseOk cfg r = true ∧ ∃ d, r.dp = some d ∧ initQualifier d = true := by
  cases hd : r.dp <;> simp [classOk, hd]

/-- The qualifier of INIT: 24 bytes, one of the bytes 8 to 23 not zero (R96). -/
theorem initQualifier_iff {d : Bytes} : initQualifier d = true ↔
    d.length = 24 ∧ ∃ k, 8 ≤ k ∧ k ≤ 23 ∧ ∃ x, d[k]? = some x ∧ x ≠ 0 := by
  have hbyte (j : Nat) : (serialBytes d)[j]? = if j < 16 then d[8 + j]? else none := by
    rw [serialBytes, slice, List.getElem?_take, List.getElem?_drop]
  simp only [initQualifier, Bool.and_eq_true, beq_iff_eq, List.any_eq_true, bne_iff_ne]
  refine and_congr_right fun _ => ⟨?_, ?_⟩
  · rintro ⟨x, hmem, hx⟩
    obtain ⟨j, hj⟩ := List.mem_iff_getElem?.mp hmem
    rw [hbyte] at hj
    split at hj
    · exact ⟨8 + j, by omega, by omega, x, hj, hx⟩
    · cases hj
  · rintro ⟨k, hlow, hhigh, x, hget, hx⟩
    refine ⟨x, List.mem_iff_getElem?.mpr ⟨k - 8, ?_⟩, hx⟩
    rw [hbyte, if_pos (by omega), show 8 + (k - 8) = k by omega, hget]

/-! ### The device information -/

/-- DECODE_INIT of 24 bytes (R96). -/
theorem decodeInit_of_length {d : Bytes} (hd : d.length = 24) :
    ∃ v, decodeInit d = some v ∧ u32le d 0 = some v.fw ∧ i32le d 4 = some v.iso ∧
      v.serial = slice d 8 23 := by
  obtain ⟨fw, hfw⟩ : ∃ fw, u32le d 0 = some fw := ⟨_, u32le_eq_some (by omega)⟩
  obtain ⟨iso, hiso⟩ : ∃ iso, i32le d 4 = some iso := ⟨_, u32le_eq_some (by omega)⟩
  exact ⟨{ fw, iso, serial := serialBytes d }, by simp [decodeInit, hfw, hiso], hfw, hiso, rfl⟩

/-- A class-successful Open response carries device information (R96). -/
theorem decodeInit_of_classOk (hok : classOk cfg r .init = true) :
    ∃ d v, r.dp = some d ∧ decodeInit d = some v := by
  obtain ⟨-, d, hd, hq⟩ := classOk_init_iff.mp hok
  obtain ⟨v, hv, -⟩ := decodeInit_of_length (initQualifier_iff.mp hq).1
  exact ⟨d, v, hd, hv⟩

/-- A host's read of VALUE faults where R95 gives none. -/
theorem readValueOp_of_absent {s : State} {h : HostId} {res : Result}
    (htaken : mapGet s.taken h = some res) (hresp : res.resp = some r)
    (hval : valueOf s.cfg r cls = none) : readValueOp h cls s = .fault .imageValueAbsent := by
  simp [readValueOp, htaken, hresp, hval]

end Sys2Proof.Machine

namespace Sys2Proof.Proofs
open Sys2Proof.Machine

/-- Settles O15: the three error codes, and the kinds from them below synth and class success. -/
theorem errorKindPriority : Obligations.ErrorKindPriority := by
  unfold Obligations.ErrorKindPriority
  intro cfg r cls hwf
  refine ⟨errorCode_of_badChecksum, errorCode_of_userId hwf, errorCode_of_deviceCode hwf,
    kindOf_of_synth, kindOf_of_classOk, fun hs hok hck => ?_, fun hs hok hck hlow hhigh => ?_,
    fun hs hok hck hout => ?_⟩
  · rw [kindOf_of_not_classOk hs hok, errorCode_of_badChecksum hck]
  · rw [kindOf_of_not_classOk hs hok, errorCode_of_userId hwf hck hlow hhigh]
  · rw [kindOf_of_not_classOk hs hok, errorCode_of_deviceCode hwf hck hout]

/-- Settles O16: the class table by cases, and class success and VALUE class by class. -/
theorem classSuccessAndValue : Obligations.ClassSuccessAndValue := by
  unfold Obligations.ClassSuccessAndValue
  refine ⟨fun cfg c hnone => ?table, fun cfg c hfast => ?fast, fun cfg r => ?values,
    fun s h res r htaken hresp hdp => ?absent⟩
  case table => cases c <;> simp [classOf, hnone]
  case fast => simp [classOf, hfast]
  case values =>
    have hcount : classOk cfg r .count = baseOk cfg r := rfl
    have hlevel : classOk cfg r .level = baseOk cfg r := rfl
    have huser : classOk cfg r .userId = baseOk cfg r := rfl
    refine ⟨fun cls hcls => classOk_of_plain ?_ ?_, classOk_fastSearch_iff, rfl, rfl,
      by simp [valueOf, hcount], by simp [valueOf, hlevel], by simp [valueOf, huser],
      fun d hd => by simp [valueOf, hd], fun hd => by simp [valueOf, hd]⟩
    · rintro rfl; simp at hcls
    · rintro rfl; simp at hcls
  case absent => exact readValueOp_of_absent htaken hresp (by simp [valueOf, hdp])

/-- Settles O17: the qualifier of INIT read byte by byte, and DECODE_INIT of a field of 24 bytes. -/
theorem initClassSuccess : Obligations.InitClassSuccess := by
  unfold Obligations.InitClassSuccess
  intro cfg r
  refine ⟨?success, fun d hd => ?decoded, fun d v hd hok hv => ?value, fun hbad => ?noValue⟩
  case success => simp only [classOk_init_iff, initQualifier_iff]
  case decoded =>
    obtain ⟨v, hv, hfw, hiso, hserial⟩ := decodeInit_of_length hd
    exact ⟨v, hv, hfw, hiso, hserial, serial_length_of_decodeInit hd hv⟩
  case value => simp [valueOf, hok, hd, hv]
  case noValue => simp [valueOf, hbad]

/-- Settles O18: SYNTH is synthesized, so it is successful under no class. -/
theorem synthesizedResponse : Obligations.SynthesizedResponse := by
  unfold Obligations.SynthesizedResponse
  intro cfg
  refine ⟨rfl, baseOk_synth cfg, fun cls => ⟨classOk_synth cfg cls, kindOf_synth cfg cls⟩, ?_, ?_, ?_, rfl⟩
  all_goals simp [valueOf]

end Sys2Proof.Proofs
end

section
/-!
SUPPORT. The frame of a sequencer step: what each named step leaves unchanged, how the channel's bytes change,
and that only FINISH writes the result, a mailbox and the device information.
-/

namespace Sys2Proof.Machine

variable {c : Cmd} {p : Word32} {d : Option Bytes} {s t : State} {g : HostId}

/-! ### FINISH -/

/-- FINISH writes no mailbox but the owner's. -/
theorem finish_mailbox_of_ne (r : Resp) (ovf : Bool) (hg : s.owner ≠ some g) :
    mapGet (finish c r ovf s).mailbox g = mapGet s.mailbox g := by
  rw [finish_eq]
  cases ho : s.owner with
  | none => rfl
  | some h => exact mapGet_mapSet_of_ne _ _ (fun e => hg (e ▸ ho))

/-- Only Open and Close write the device information (R98, R130). -/
theorem devinfoAfter_of_other {cfg : Config} {r : Resp} {old : Option DevInfo} (hopen : c ≠ .openCmd)
    (hclose : c ≠ .closeCmd) : devinfoAfter cfg c r old = old := by
  unfold devinfoAfter
  split
  · exact absurd rfl hopen
  · exact absurd rfl hclose
  · rfl

/-- Without class success Open leaves the device information (R98). -/
theorem devinfoAfter_open_of_bad {cfg : Config} {r : Resp} {old : Option DevInfo}
    (hbad : classOk cfg r .init = false) : devinfoAfter cfg .openCmd r old = old := by
  simp [devinfoAfter, hbad]

/-- A class-successful Open writes the decoded data packet (R98). -/
theorem devinfoAfter_open_of_ok {cfg : Config} {r : Resp} {old : Option DevInfo} {b : Bytes}
    (hok : classOk cfg r .init = true) (hb : r.dp = some b) :
    devinfoAfter cfg .openCmd r old = decodeInit b := by
  simp [devinfoAfter, hok, hb]

namespace SeqStep

/-! ### What no step of a command changes -/

/-- The fields that no step of a command writes. -/
theorem frame (hstep : SeqStep c p d s t) :
    t.cfg = s.cfg ∧ t.waiters = s.waiters ∧ t.req = s.req ∧ t.capacity = s.capacity ∧ t.now = s.now ∧
    t.port = s.port ∧ t.txAnswer = s.txAnswer ∧ t.openAnswer = s.openAnswer ∧
    t.keepsBytes = s.keepsBytes ∧ t.clients = s.clients ∧ t.taken = s.taken ∧ t.reply = s.reply ∧
    t.moves = s.moves ∧ t.freeMoves = s.freeMoves := by
  cases hstep <;> simp

/-- A step keeps the lock's results where they are, or it is FINISH of a state that differs from the one
before in the receive buffer, the channel's bytes and the step counter. -/
theorem keeps_or_finishes (hstep : SeqStep c p d s t) :
    ((t.owner = none → s.owner = none) ∧ t.mailbox = s.mailbox ∧ t.result = s.result ∧
      t.devinfo = s.devinfo) ∨
    ∃ r ovf rx out held n,
      t = finish c r ovf { s with rxbuf := rx, outbound := out, inbound := held, seqSteps := n } := by
  cases hstep with
  | waits => exact .inl ⟨id, rfl, rfl, rfl⟩
  | grants _ hfree _ => exact .inl ⟨fun _ => hfree, rfl, rfl, rfl⟩
  | sends | flushes | polls | startsStageTwo | schedules | resumes => exact .inl ⟨id, rfl, rfl, rfl⟩
  | sendFails | flushFails | overflows | completes | timesOut => exact .inr ⟨_, _, _, _, _, _, rfl⟩

/-- Only the owner's mailbox can change. -/
theorem mailbox_of_ne (hstep : SeqStep c p d s t) (hg : s.owner ≠ some g) :
    mapGet t.mailbox g = mapGet s.mailbox g := by
  obtain ⟨-, hmail, -, -⟩ | ⟨r, ovf, rx, out, held, n, rfl⟩ := hstep.keeps_or_finishes
  · rw [hmail]
  · exact finish_mailbox_of_ne r ovf hg

/-- Without a release nothing is delivered and nothing is written to the result and the device information. -/
theorem results_of_held (hstep : SeqStep c p d s t) (hheld : t.owner ≠ none) :
    t.mailbox = s.mailbox ∧ t.result = s.result ∧ t.devinfo = s.devinfo := by
  obtain ⟨-, hkeep⟩ | ⟨r, ovf, rx, out, held, n, rfl⟩ := hstep.keeps_or_finishes
  · exact hkeep
  · exact absurd (finish_owner ..) hheld

/-- Only a step of Open or of Close writes the device information. -/
theorem devinfo_of_other (hstep : SeqStep c p d s t) (hopen : c ≠ .openCmd) (hclose : c ≠ .closeCmd) :
    t.devinfo = s.devinfo := by
  obtain ⟨-, -, -, hinfo⟩ | ⟨r, ovf, rx, out, held, n, rfl⟩ := hstep.keeps_or_finishes
  · exact hinfo
  · simp [devinfoAfter_of_other hopen hclose]

/-! ### The channel's bytes -/

theorem outbound_of_phase (hstep : SeqStep c p d s t) (hp : s.phase ≠ .send) :
    t.outbound = s.outbound := by
  cases hstep with
  | sends hsend _ => exact absurd hsend hp
  | sendFails hsend _ => exact absurd hsend hp
  | _ => simp

/-- What a step sends is a first part of its stage's frame. -/
theorem outbound (hstep : SeqStep c p d s t) : ∃ sent, t.outbound = s.outbound ++ sent ∧
    ∀ frame, stageFrame c p d s = some frame → sent <+: frame := by
  cases hstep with
  | @sends f _ hf =>
    refine ⟨f, rfl, fun frame hframe => ?_⟩
    obtain rfl : f = frame := Option.some.inj (hf.symm.trans hframe)
    exact List.prefix_refl f
  | @sendFails f k _ hf =>
    refine ⟨f.take k, finish_outbound .., fun frame hframe => ?_⟩
    obtain rfl : f = frame := Option.some.inj (hf.symm.trans hframe)
    exact List.take_prefix k f
  | _ => exact ⟨[], by simp, fun _ _ => List.nil_prefix⟩

theorem inbound_of_phase (hstep : SeqStep c p d s t) (hp : s.phase ≠ .poll)
    (hdrain : ¬(s.phase = .idle ∧ s.cfg.rxDrainAtStart = true)) : t.inbound = s.inbound := by
  cases hstep with
  | grants hidle _ _ =>
    have hkeep : ¬s.cfg.rxDrainAtStart = true := fun h => hdrain ⟨hidle, h⟩
    simp [hkeep]
  | overflows hpoll => exact absurd hpoll hp
  | polls hpoll _ => exact absurd hpoll hp
  | _ => simp

theorem inbound (hstep : SeqStep c p d s t) : t.inbound = s.inbound ∨ t.inbound = [] := by
  cases hstep with
  | grants _ _ _ => cases s.cfg.rxDrainAtStart <;> simp
  | _ => simp

/-! ### The receive buffer, the timers and the prediction -/

theorem rxbuf_of_phase (hstep : SeqStep c p d s t) (hsend : s.phase ≠ .send) (hpoll : s.phase ≠ .poll) :
    t.rxbuf = s.rxbuf := by
  cases hstep with
  | sends hp _ => exact absurd hp hsend
  | sendFails hp _ => exact absurd hp hsend
  | polls hp _ => exact absurd hp hpoll
  | _ => simp

theorem tOrigin_of_phase (hstep : SeqStep c p d s t) (hp : s.phase ≠ .flush) : t.tOrigin = s.tOrigin := by
  cases hstep with
  | flushes hflush => exact absurd hflush hp
  | _ => simp

theorem nextPoll_of_phase (hstep : SeqStep c p d s t) (hflush : s.phase ≠ .flush)
    (hcheck : s.phase ≠ .check) : t.nextPoll = s.nextPoll := by
  cases hstep with
  | flushes hp => exact absurd hp hflush
  | schedules hp _ => exact absurd hp hcheck
  | _ => simp

theorem expLen_of_phase (hstep : SeqStep c p d s t) (hp : s.phase ≠ .idle) : t.expLen = s.expLen := by
  cases hstep with
  | grants hidle _ _ => exact absurd hidle hp
  | _ => simp

end SeqStep

/-- A step of an instruction is one of the named ones. -/
theorem exec_seqStep {i : Instr} (hn : exec i s = .next t) : SeqStep i.cmd i.param i.data s t :=
  runCommand_seqStep (exec_eq_runCommand i s ▸ hn)

/-! ### A running command answers -/

/-- A step of a command answers a next state if its stage has a frame and a complete reply parses. -/
theorem runCommand_answers (hframe : s.phase = .send → ∃ f, stageFrame c p d s = some f)
    (hparse : s.expLen.toNat ≤ s.rxbuf.length → ∃ r, parse s.cfg s.rxbuf = some r) :
    ∃ t, runCommand c p d s = .next t := by
  unfold runCommand
  split
  · unfold grantStep; split <;> exact ⟨_, rfl⟩
  · rename_i hp
    obtain ⟨f, hf⟩ := hframe hp
    unfold sendStep
    rw [hf]
    dsimp only
    split <;> exact ⟨_, rfl⟩
  · unfold flushStep; split <;> exact ⟨_, rfl⟩
  · unfold pollStep; split <;> exact ⟨_, rfl⟩
  · unfold checkStep
    split
    · rename_i hdone
      obtain ⟨r, hr⟩ := hparse hdone.1
      unfold stageEnd
      rw [hr]
      dsimp only
      split <;> exact ⟨_, rfl⟩
    · split <;> exact ⟨_, rfl⟩
  · unfold waitStep; split <;> exact ⟨_, rfl⟩

/-- The running request's instruction answers a next state in every state of the invariant: stage 2 has data,
and a complete reply has at least the 12 bytes that PARSE reads. -/
theorem Inv.exec_answers {i : Instr} {h : HostId} (hi : Inv s) (ho : s.owner = some h)
    (hdata : i.data = s.req.data) : ∃ t, exec i s = .next t := by
  obtain ⟨-, -, -, hexp, hst, -, -⟩ := hi.running_of_owner ho
  rw [exec_eq_runCommand]
  refine runCommand_answers (fun _ => ?frame) (fun hlen => ?parse)
  case frame =>
    by_cases hone : s.stage = 1
    · exact ⟨_, stageFrame_of_stage_one hone⟩
    · obtain ⟨b, hb⟩ := Option.isSome_iff_exists.mp (hst.resolve_left hone)
      exact ⟨buildDp s.cfg b, by rw [stageFrame_of_stage_ne_one hone, hdata, hb, Option.map_some]⟩
  case parse =>
    unfold expLenOk at hexp
    split at hexp
    · rename_i c _
      have hmin := predict_ge hi.config c s.req.param
      rw [← beq_iff_eq.mp hexp] at hmin
      exact parse_eq_some hi.config (hmin.trans hlen)
    · cases hexp

/-- The sequencer's move answers a next state in every state of the invariant. -/
theorem Inv.seq_answers (hi : Inv s) : ∃ t, seqMove s = .next t := by
  by_cases hp : s.phase = .idle
  · exact ⟨s, by simp [seqMove, hp]⟩
  · obtain ⟨h, ho⟩ := hi.exists_owner hp
    obtain ⟨-, hck⟩ := requestOk_iff.mp (hi.running_of_owner ho).request
    obtain ⟨i, hreq, -, -, hdata⟩ := instrOf_of_check hck
    rw [seqMove_of_running hp, runReq_of_instrOf hreq]
    exact hi.exec_answers ho hdata

/-- GRANT answers a next state in every state of the invariant. -/
theorem Inv.grant_answers (hi : Inv s) (h : HostId) : ∃ t, grantMove h s = .next t := by
  by_cases ho : s.owner = none
  · cases hw : mapGet s.waiters h with
    | none => exact ⟨s, by simp [grantMove, hw]⟩
    | some r =>
      obtain ⟨c, -, heq⟩ := grantMove_of_free hi ho hw
      exact ⟨_, heq⟩
  · obtain ⟨o, ho⟩ := Option.ne_none_iff_exists'.mp ho
    exact ⟨s, by simp [grantMove, ho]⟩

end Sys2Proof.Machine

namespace Sys2Proof.Proofs
open Sys2Proof.Machine

/-- Settles O31: a release is FINISH, which writes the device information by `devinfoAfter`. -/
theorem openSetsCloseClearsDeviceInfo : Obligations.OpenSetsCloseClearsDeviceInfo := by
  unfold Obligations.OpenSetsCloseClearsDeviceInfo
  intro p s t hheld hfree
  refine ⟨fun hn => ?opens, fun hn => ?closes⟩
  case opens =>
    obtain ⟨hkeep, -⟩ | ⟨r, ovf, rx, out, held, n, rfl⟩ := (exec_seqStep hn).keeps_or_finishes
    · exact absurd (hkeep hfree) hheld
    refine ⟨r, by simp [resultOf], fun hok => ?_, fun hbad => ?_⟩
    · obtain ⟨b, v, hb, hv⟩ := decodeInit_of_classOk hok
      exact ⟨b, hb, by simp [Instr.cmd, devinfoAfter_open_of_ok hok hb],
        by simp [Instr.cmd, devinfoAfter_open_of_ok hok hb, hv]⟩
    · simp [Instr.cmd, devinfoAfter_open_of_bad hbad]
  case closes =>
    obtain ⟨hkeep, -⟩ | ⟨r, ovf, rx, out, held, n, rfl⟩ := (exec_seqStep hn).keeps_or_finishes
    · exact absurd (hkeep hfree) hheld
    · simp [Instr.cmd, devinfoAfter]

/-- Settles O32, by the frame of the named steps. -/
theorem execFrame : Obligations.ExecFrame := by
  unfold Obligations.ExecFrame
  intro i s t hn
  have hstep := exec_seqStep hn
  obtain ⟨hcfg, hwaiters, hreq, hcapacity, hnow, hport, htx, hopen, hkeeps, hclients, htaken, hreply,
    hmoves, hfree⟩ := hstep.frame
  exact ⟨hcfg, hwaiters, hreq, hcapacity, hnow, hport, htx, hopen, hkeeps, hclients, htaken, hreply,
    hmoves, hfree, fun _ => hstep.mailbox_of_ne, hstep.results_of_held, hstep.devinfo_of_other,
    hstep.outbound_of_phase, hstep.outbound, hstep.inbound_of_phase, hstep.inbound,
    hstep.rxbuf_of_phase, hstep.tOrigin_of_phase, hstep.nextPoll_of_phase, hstep.expLen_of_phase⟩

/-- Settles O33: the request decodes to an instruction that carries its data. -/
theorem runningCommandAnswersNext : Obligations.RunningCommandAnswersNext := by
  unfold Obligations.RunningCommandAnswersNext
  intro i s hi hp hreq
  obtain ⟨h, ho⟩ := hi.exists_owner hp
  obtain ⟨-, -, -, hdata, -⟩ := decodeRequest_ok hreq
  exact hi.exec_answers ho hdata

end Sys2Proof.Proofs
end

section
/-!
SUPPORT. What each move of each agent can answer and change, beyond the lock: the frame of the moves other than
GRANT, the sequencer's step and CANCEL, and from it and the sequencer's frame the poll grid, the channel's bytes
and the device information.
-/

namespace Sys2Proof.Machine

variable {s t : State} {h : HostId}

/-! ### The frame of the other agents' moves -/

/-- What a move of a host, the channel, the device or the time base leaves alone: the framer but for the
waiters and the mailboxes, the configuration and the bytes sent; and time does not run back. -/
structure OtherStep (s t : State) : Prop where
  framer : t.toFramer = { s.toFramer with waiters := t.waiters, mailbox := t.mailbox }
  cfg : t.cfg = s.cfg
  outbound : t.outbound = s.outbound
  now : s.now ≤ t.now

namespace OtherStep

theorem refl (s : State) : OtherStep s s := ⟨rfl, rfl, rfl, le_rfl⟩

theorem trans {u : State} (hst : OtherStep s t) (htu : OtherStep t u) : OtherStep s u :=
  ⟨by rw [htu.framer, hst.framer], htu.cfg.trans hst.cfg, htu.outbound.trans hst.outbound,
    hst.now.trans htu.now⟩

variable (hst : OtherStep s t)
include hst

theorem owner : t.owner = s.owner := by rw [hst.framer]
theorem phase : t.phase = s.phase := by rw [hst.framer]
theorem stage : t.stage = s.stage := by rw [hst.framer]
theorem req : t.req = s.req := by rw [hst.framer]
theorem tOrigin : t.tOrigin = s.tOrigin := by rw [hst.framer]
theorem nextPoll : t.nextPoll = s.nextPoll := by rw [hst.framer]
theorem devinfo : t.devinfo = s.devinfo := by rw [hst.framer]

end OtherStep

theorem submitOp_otherStep {code : Word16} {param : Word32} {data : Option Bytes} {timeoutMs : Word32}
    (hn : submitOp h code param data timeoutMs s = .next t) : OtherStep s t := by
  obtain ⟨-, ⟨-, rfl⟩ | ⟨-, rfl⟩⟩ := submitOp_next hn <;> exact ⟨rfl, rfl, rfl, le_rfl⟩

theorem takeOp_otherStep : OtherStep s (takeOp h s) := by
  unfold takeOp
  split
  · exact ⟨rfl, rfl, rfl, le_rfl⟩
  · exact .refl s

theorem setTask_otherStep (task : Task) : OtherStep s (s.setTask h task) := ⟨rfl, rfl, rfl, le_rfl⟩

theorem portOpenOp_otherStep (baud : Word32) : OtherStep s (portOpenOp baud s) := by
  unfold portOpenOp
  split
  · exact ⟨rfl, rfl, rfl, le_rfl⟩
  · exact .refl s

theorem portCloseOp_otherStep : OtherStep s (portCloseOp s) := ⟨rfl, rfl, rfl, le_rfl⟩

theorem clientOp_otherStep (hn : clientOp h s = .next t) : OtherStep s t := by
  unfold clientOp at hn
  split at hn
  · cases hn; exact .refl s -- no task
  · cases hn; exact .refl s -- a finished task
  · exact (setTask_otherStep _).trans (submitOp_otherStep hn) -- SUBMIT
  · split at hn <;> cases hn -- TAKE
    · exact takeOp_otherStep.trans (setTask_otherStep _)
    · exact .refl s
  · split at hn <;> cases hn -- a delay
    · exact setTask_otherStep _
    · exact .refl s
  · split at hn <;> cases hn -- PORT_OPEN
    · exact (portOpenOp_otherStep _).trans (setTask_otherStep _)
    · exact setTask_otherStep _
  · cases hn; exact portCloseOp_otherStep.trans (setTask_otherStep _) -- PORT_CLOSE

/-- CANCEL by a host whose transaction does not run. -/
theorem cancelOp_otherStep (hr : ¬(s.owner = some h ∧ s.phase ≠ .idle)) : OtherStep s (cancelOp h s) := by
  unfold cancelOp
  rw [if_neg hr]
  split
  · exact ⟨rfl, rfl, rfl, le_rfl⟩
  · exact .refl s

/-- Every move but GRANT, the sequencer's step and CANCEL has that frame. -/
theorem perform_otherStep {m : Move} (hgrant : ∀ h, m ≠ .grant h) (hseq : m ≠ .seq)
    (hcancel : ∀ h, m ≠ .cancel h) (hn : perform m s = .next t) : OtherStep s t := by
  cases m with
  | grant h => exact absurd rfl (hgrant h)
  | seq => exact absurd rfl hseq
  | cancel h => exact absurd rfl (hcancel h)
  | submit h code param data timeoutMs => exact submitOp_otherStep hn
  | client h => exact clientOp_otherStep hn
  | take h => cases hn; exact takeOp_otherStep
  | readValue h cls =>
    obtain rfl | ⟨v, rfl⟩ := readValueOp_next hn
    · exact .refl t
    · exact ⟨rfl, rfl, rfl, le_rfl⟩
  | start h op =>
    cases hn
    unfold startOp
    split
    · exact setTask_otherStep _
    · exact .refl s
  | portOpen h baud =>
    cases hn
    exact (portOpenOp_otherStep baud).trans ⟨rfl, rfl, rfl, le_rfl⟩
  | portClose h => cases hn; exact portCloseOp_otherStep
  | readReg h n => cases hn; exact ⟨rfl, rfl, rfl, le_rfl⟩
  | channel a openOk keeps => cases hn; exact ⟨rfl, rfl, rfl, le_rfl⟩
  | device b => cases hn; exact ⟨rfl, rfl, rfl, le_rfl⟩
  | tick => cases hn; exact ⟨rfl, rfl, rfl, Nat.le_succ _⟩
  | reset => rw [((State.resetOp_eq_next_iff s t).mp hn).2]; exact .refl s

/-! ### Every move by its frame -/

/-- GRANT waits, or it is the record update of R109, of a waiter on the free lock. -/
theorem Inv.grant_next (hi : Inv s) (hn : grantMove h s = .next t) :
    t = s ∨ (s.owner = none ∧ ∃ r c, mapGet s.waiters h = some r ∧ cmdOfCode s.cfg r.code = some c ∧
      t = { s with
        waiters := mapErase s.waiters h
        owner := some h
        req := r
        expLen := predict s.cfg c r.param
        stage := 1
        doneFlag := false
        inbound := if s.cfg.rxDrainAtStart then [] else s.inbound
        phase := .send
        seqSteps := s.seqSteps + 1 }) := by
  obtain rfl | ⟨ho, -, r, hw, -⟩ := grantMove_next hn
  · exact .inl rfl
  obtain ⟨c, hc, heq⟩ := grantMove_of_free hi ho hw
  rw [heq] at hn
  cases hn
  exact .inr ⟨ho, r, c, hw, hc, rfl⟩

/-- The sequencer's move waits, or in a running transaction it is a named step of the decoded instruction. -/
theorem seqMove_next (hn : seqMove s = .next t) : t = s ∨ (s.phase ≠ .idle ∧
    ∃ i : Instr, cmdOfCode s.cfg s.req.code = some i.cmd ∧ i.data = s.req.data ∧
      SeqStep i.cmd i.param i.data s t) := by
  by_cases hp : s.phase = .idle
  · simp only [seqMove, hp] at hn
    cases hn
    exact .inl rfl
  · obtain ⟨i, hc, -, hdata, hstep⟩ := seqMove_seqStep hp hn
    exact .inr ⟨hp, i, hc, hdata, hstep⟩

/-- Everything a move does to the machine, by the agent whose move it is. -/
theorem perform_cases {m : Move} (hi : Inv s) (hn : perform m s = .next t) :
    OtherStep s t ∨
    (∃ h, m = .cancel h ∧ s.owner = some h ∧ t = cancelOp h s ∧ t.phase = .idle) ∨
    (∃ h, m = .grant h ∧ grantMove h s = .next t) ∨
    (m = .seq ∧ s.phase ≠ .idle ∧ ∃ i : Instr, cmdOfCode s.cfg s.req.code = some i.cmd ∧
      i.data = s.req.data ∧ SeqStep i.cmd i.param i.data s t) := by
  by_cases hgrant : ∃ h, m = .grant h
  · obtain ⟨h, rfl⟩ := hgrant
    exact .inr (.inr (.inl ⟨h, rfl, hn⟩))
  by_cases hseq : m = .seq
  · subst hseq
    obtain rfl | hstep := seqMove_next hn
    · exact .inl (.refl t)
    · exact .inr (.inr (.inr ⟨rfl, hstep⟩))
  by_cases hcancel : ∃ h, m = .cancel h
  · obtain ⟨h, rfl⟩ := hcancel
    cases hn
    by_cases hr : s.owner = some h ∧ s.phase ≠ .idle
    · exact .inr (.inl ⟨h, rfl, hr.1, rfl, by simp [cancelOp_of_running hr.1 hr.2]⟩)
    · exact .inl (cancelOp_otherStep hr)
  · exact .inl (perform_otherStep (not_exists.mp hgrant) hseq (not_exists.mp hcancel) hn)

/-! ### The poll grid -/

/-- The grid is a claim about the read phases only. -/
theorem pollGrid_of_phase (hpoll : s.phase ≠ .poll) (hcheck : s.phase ≠ .check) (hwait : s.phase ≠ .wait) :
    pollGrid s := by
  rintro (hp | hp | hp)
  · exact absurd hp hpoll
  · exact absurd hp hcheck
  · exact absurd hp hwait

/-- A sequencer step starts the grid, keeps it, advances by one attempt, or leaves the read phases. -/
theorem SeqStep.pollGrid {c : Cmd} {p : Word32} {d : Option Bytes} (hstep : SeqStep c p d s t)
    (hgrid : pollGrid s) : pollGrid t := by
  cases hstep with
  | waits => exact hgrid
  | flushes _ => exact fun _ => ⟨le_rfl, 0, by simp⟩
  | polls hp _ => exact fun _ => hgrid (.inl hp)
  | resumes hp _ => exact fun _ => hgrid (.inr (.inr hp))
  | schedules hp _ =>
    obtain ⟨hstart, k, hk⟩ := hgrid (.inr (.inl hp))
    exact fun _ => ⟨hstart, k + 1, by simp only [hk]; ring⟩
  | grants | sends | startsStageTwo =>
    exact pollGrid_of_phase (by simp) (by simp) (by simp)
  | sendFails | flushFails | overflows | completes | timesOut =>
    exact pollGrid_of_phase (by simp) (by simp) (by simp)

theorem OtherStep.pollGrid (hst : OtherStep s t) (hgrid : pollGrid s) : pollGrid t := by
  intro hp
  rw [hst.phase] at hp
  obtain ⟨hstart, k, hk⟩ := hgrid hp
  rw [hst.tOrigin, hst.nextPoll, hst.cfg]
  exact ⟨hstart.trans hst.now, k, hk⟩

/-- Every move keeps the grid. -/
theorem perform_pollGrid {m : Move} (hi : Inv s) (hgrid : pollGrid s) (hn : perform m s = .next t) :
    pollGrid t := by
  obtain hst | ⟨h, -, -, -, hidle⟩ | ⟨h, -, hgrant⟩ | ⟨-, -, i, -, -, hstep⟩ := perform_cases hi hn
  · exact hst.pollGrid hgrid
  · exact pollGrid_of_phase (by simp [hidle]) (by simp [hidle]) (by simp [hidle])
  · obtain rfl | ⟨-, r, c, -, -, rfl⟩ := hi.grant_next hgrant
    · exact hgrid
    · exact pollGrid_of_phase (by simp) (by simp) (by simp)
  · exact hstep.pollGrid hgrid

/-! ### What a move can answer -/

/-- What a move answers from a state of the invariant (R168, R180): a next state, the one fault, or one of the
three refusals. -/
inductive MoveAnswer : StepResult → Prop
  | next (t : State) : MoveAnswer (.next t)
  | imageValueAbsent : MoveAnswer (.fault .imageValueAbsent)
  | submitWhileOutstanding : MoveAnswer (.refused .submitWhileOutstanding)
  | resetWhileOutstanding : MoveAnswer (.refused .resetWhileOutstanding)
  | resetAfterLaunch : MoveAnswer (.refused .resetAfterLaunch)

theorem MoveAnswer.of_next {o : StepResult} (hn : ∃ t, o = .next t) : MoveAnswer o := by
  obtain ⟨t, rfl⟩ := hn
  exact .next t

theorem MoveAnswer.fault_eq {e : Fault} (ha : MoveAnswer (.fault e)) : e = .imageValueAbsent := by
  cases ha
  rfl

theorem MoveAnswer.refused_cases {e : Refusal} (ha : MoveAnswer (.refused e)) :
    e = .submitWhileOutstanding ∨ e = .resetWhileOutstanding ∨ e = .resetAfterLaunch := by
  cases ha with
  | submitWhileOutstanding => exact .inl rfl
  | resetWhileOutstanding => exact .inr (.inl rfl)
  | resetAfterLaunch => exact .inr (.inr rfl)

theorem submitOp_answers (code : Word16) (param : Word32) (data : Option Bytes) (timeoutMs : Word32) :
    MoveAnswer (submitOp h code param data timeoutMs s) := by
  unfold submitOp
  split
  · exact .submitWhileOutstanding
  · split <;> exact .next _

theorem clientOp_answers : MoveAnswer (clientOp h s) := by
  unfold clientOp
  split
  · exact .next _ -- no task
  · exact .next _ -- a finished task
  · exact submitOp_answers .. -- SUBMIT
  · split <;> exact .next _ -- TAKE
  · split <;> exact .next _ -- a delay
  · split <;> exact .next _ -- PORT_OPEN
  · exact .next _ -- PORT_CLOSE

theorem readValueOp_answers (cls : RespClass) : MoveAnswer (readValueOp h cls s) := by
  unfold readValueOp
  split
  · split
    · exact .next _
    · exact .imageValueAbsent
  · exact .next _

theorem resetOp_answers : MoveAnswer (resetOp s) := by
  unfold resetOp
  split
  · exact .resetWhileOutstanding
  · split
    · exact .next _
    · exact .resetAfterLaunch

/-- Every move answers as its agent's operation does (R168, R180). -/
theorem perform_answers (hi : Inv s) (m : Move) : MoveAnswer (perform m s) := by
  cases m with
  | submit h code param data timeoutMs => exact submitOp_answers code param data timeoutMs
  | client h => exact clientOp_answers
  | readValue h cls => exact readValueOp_answers cls
  | reset => exact resetOp_answers
  | grant h => exact .of_next (hi.grant_answers h)
  | seq => exact .of_next hi.seq_answers
  | cancel | take | readReg | portOpen | portClose | start | channel | device | tick => exact .next _

/-! ### The configuration, the device information, the bytes sent -/

/-- No move changes the configuration (log 1). -/
theorem perform_cfg {m : Move} (hi : Inv s) (hn : perform m s = .next t) : t.cfg = s.cfg := by
  obtain hst | ⟨h, -, ho, rfl, -⟩ | ⟨h, -, hgrant⟩ | ⟨-, -, i, -, -, hstep⟩ := perform_cases hi hn
  · exact hst.cfg
  · simp [cancelOp_of_running ho (hi.running_of_owner ho).phase]
  · obtain rfl | ⟨-, r, c, -, -, rfl⟩ := hi.grant_next hgrant <;> rfl
  · exact hstep.frame.1

/-- A move that changes the device information is a sequencer step, and FINISH of its command. -/
theorem perform_devinfo {m : Move} (hi : Inv s) (hn : perform m s = .next t) (hne : t.devinfo ≠ s.devinfo) :
    m = .seq ∧ s.phase ≠ .idle ∧ t.owner = none ∧ ∃ c r, cmdOfCode s.cfg s.req.code = some c ∧
      t.devinfo = devinfoAfter s.cfg c r s.devinfo := by
  obtain hst | ⟨h, -, ho, rfl, -⟩ | ⟨h, -, hgrant⟩ | ⟨rfl, hp, i, hc, -, hstep⟩ := perform_cases hi hn
  · exact absurd hst.devinfo hne
  · exact absurd (by simp [cancelOp_of_running ho (hi.running_of_owner ho).phase]) hne
  · obtain rfl | ⟨-, r, c, -, -, rfl⟩ := hi.grant_next hgrant <;> exact absurd rfl hne
  · obtain ⟨-, -, -, hkeep⟩ | ⟨r, ovf, rx, out, held, n, rfl⟩ := hstep.keeps_or_finishes
    · exact absurd hkeep hne
    · exact ⟨rfl, hp, by simp, i.cmd, r, hc, by simp⟩

/-- The bytes sent only grow, and only in SEND of a running transaction. -/
theorem perform_outbound {m : Move} (hi : Inv s) (hn : perform m s = .next t) :
    s.outbound <+: t.outbound ∧ (t.outbound ≠ s.outbound → m = .seq ∧ s.phase = .send) := by
  have same (heq : t.outbound = s.outbound) : s.outbound <+: t.outbound ∧
      (t.outbound ≠ s.outbound → m = .seq ∧ s.phase = .send) :=
    ⟨heq ▸ List.prefix_refl _, fun hne => absurd heq hne⟩
  obtain hst | ⟨h, -, ho, rfl, -⟩ | ⟨h, -, hgrant⟩ | ⟨rfl, hp, i, -, -, hstep⟩ := perform_cases hi hn
  · exact same hst.outbound
  · exact same (by simp [cancelOp_of_running ho (hi.running_of_owner ho).phase])
  · obtain rfl | ⟨-, r, c, -, -, rfl⟩ := hi.grant_next hgrant <;> exact same rfl
  · obtain ⟨sent, hsent, -⟩ := hstep.outbound
    refine ⟨hsent ▸ List.prefix_append _ _, fun hne => ⟨rfl, ?_⟩⟩
    by_contra hsend
    exact hne (hstep.outbound_of_phase hsend)

/-! ### The bytes held -/

/-- What an open or a close keeps, it keeps in place (log 16). -/
theorem heldBytes_of_keeps (hk : s.keepsBytes = true) : heldBytes s = s.inbound := if_pos hk

theorem submitOp_inbound {code : Word16} {param : Word32} {data : Option Bytes} {timeoutMs : Word32}
    (hn : submitOp h code param data timeoutMs s = .next t) : t.inbound = s.inbound := by
  obtain ⟨-, ⟨-, rfl⟩ | ⟨-, rfl⟩⟩ := submitOp_next hn <;> rfl

theorem takeOp_inbound : (takeOp h s).inbound = s.inbound := by
  unfold takeOp
  split <;> rfl

theorem portOpenOp_inbound {baud : Word32} (hlost : (portOpenOp baud s).inbound ≠ s.inbound) :
    s.keepsBytes = false ∧ s.openAnswer = true := by
  unfold portOpenOp at hlost
  split at hlost
  · rename_i hopen
    exact ⟨Bool.eq_false_iff.mpr fun hk => hlost (heldBytes_of_keeps hk), hopen⟩
  · exact absurd rfl hlost

theorem portCloseOp_inbound (hlost : (portCloseOp s).inbound ≠ s.inbound) : s.keepsBytes = false :=
  Bool.eq_false_iff.mpr fun hk => hlost (heldBytes_of_keeps hk)

/-- A client step changes the bytes held only where it opens or closes the port. -/
theorem clientOp_inbound (hn : clientOp h s = .next t) (hlost : t.inbound ≠ s.inbound) :
    s.keepsBytes = false ∧
      ((∃ b k, mapGet s.clients h = some (.portOpen b k) ∧ s.openAnswer = true) ∨
        ∃ k, mapGet s.clients h = some (.portClose k)) := by
  unfold clientOp at hn
  split at hn
  · cases hn; exact absurd rfl hlost -- no task
  · cases hn; exact absurd rfl hlost -- a finished task
  · exact absurd (submitOp_inbound hn) hlost -- SUBMIT
  · split at hn <;> cases hn -- TAKE
    · exact absurd takeOp_inbound hlost
    · exact absurd rfl hlost
  · split at hn <;> cases hn <;> exact absurd rfl hlost -- a delay
  · rename_i b k htask -- PORT_OPEN
    split at hn <;> cases hn
    · obtain ⟨hk, hopen⟩ := portOpenOp_inbound (s := s) (baud := b) hlost
      exact ⟨hk, .inl ⟨b, k, htask, hopen⟩⟩
    · exact absurd rfl hlost
  · rename_i k htask -- PORT_CLOSE
    cases hn
    exact ⟨portCloseOp_inbound (s := s) hlost, .inr ⟨k, htask⟩⟩

/-- A move loses held bytes only in POLL, at a draining GRANT, or where a port operation does not keep them. -/
theorem perform_inbound {m : Move} (hi : Inv s) (hn : perform m s = .next t)
    (hlost : ¬s.inbound <+: t.inbound) :
    (m = .seq ∧ s.phase = .poll) ∨
    (∃ h, m = .grant h ∧ s.cfg.rxDrainAtStart = true) ∨
    (s.keepsBytes = false ∧
      ((∃ h b, m = .portOpen h b ∧ s.openAnswer = true) ∨
        (∃ h, m = .portClose h) ∨
        (∃ h b k, m = .client h ∧ mapGet s.clients h = some (.portOpen b k) ∧ s.openAnswer = true) ∨
        (∃ h k, m = .client h ∧ mapGet s.clients h = some (.portClose k)))) := by
  have hne : t.inbound ≠ s.inbound := fun heq => hlost (heq ▸ List.prefix_refl _)
  cases m with
  | seq =>
    obtain rfl | ⟨hp, i, -, -, hstep⟩ := seqMove_next hn
    · exact absurd rfl hne
    · refine .inl ⟨rfl, ?_⟩
      by_contra hpoll
      exact hne (hstep.inbound_of_phase hpoll fun hidle => hp hidle.1)
  | grant h =>
    obtain rfl | ⟨-, r, c, -, -, rfl⟩ := hi.grant_next hn
    · exact absurd rfl hne
    · refine .inr (.inl ⟨h, rfl, ?_⟩)
      by_contra hkeep
      exact hne (if_neg hkeep)
  | portOpen h baud =>
    cases hn
    obtain ⟨hk, hopen⟩ := portOpenOp_inbound (s := s) (baud := baud) hne
    exact .inr (.inr ⟨hk, .inl ⟨h, baud, rfl, hopen⟩⟩)
  | portClose h =>
    cases hn
    exact .inr (.inr ⟨portCloseOp_inbound hne, .inr (.inl ⟨h, rfl⟩)⟩)
  | client h =>
    obtain ⟨hk, ⟨b, k, htask, hopen⟩ | ⟨k, htask⟩⟩ := clientOp_inbound hn hne
    · exact .inr (.inr ⟨hk, .inr (.inr (.inl ⟨h, b, k, rfl, htask, hopen⟩))⟩)
    · exact .inr (.inr ⟨hk, .inr (.inr (.inr ⟨h, k, rfl, htask⟩))⟩)
  | submit h code param data timeoutMs => exact absurd (submitOp_inbound hn) hne
  | take h => cases hn; exact absurd takeOp_inbound hne
  | cancel h =>
    cases hn
    refine absurd ?_ hne
    unfold cancelOp
    split
    · rfl
    · split <;> rfl
  | readValue h cls => obtain rfl | ⟨v, rfl⟩ := readValueOp_next hn <;> exact absurd rfl hne
  | start h op =>
    cases hn
    refine absurd ?_ hne
    unfold startOp
    split <;> rfl
  | device b => cases hn; exact absurd (List.prefix_append _ _) hlost
  | reset => exact absurd (by rw [((State.resetOp_eq_next_iff s t).mp hn).2]) hne
  | readReg | channel | tick => cases hn; exact absurd rfl hne

end Sys2Proof.Machine

namespace Sys2Proof.Proofs
open Sys2Proof.Machine

/-- Settles O47: a step is the next move's, and every move keeps the grid. -/
theorem stepKeepsPollGrid : Obligations.StepKeepsPollGrid := by
  unfold Obligations.StepKeepsPollGrid
  intro s t hi hgrid hn
  obtain ⟨ms, k, heq⟩ := nextMove_snd s
  rw [step, heq] at hn
  exact perform_pollGrid (hi.setMoves ms k) hgrid hn

/-- Settles O48: a step is the next move's, and every move answers as its agent's operation does. -/
theorem stepFaultsOnlyOnAbsentImage : Obligations.StepFaultsOnlyOnAbsentImage := by
  unfold Obligations.StepFaultsOnlyOnAbsentImage
  intro s hi
  obtain ⟨ms, k, heq⟩ := nextMove_snd s
  have hanswer := perform_answers (hi.setMoves ms k) (nextMove s).1
  unfold step
  rw [heq]
  exact ⟨fun e hf => (hf ▸ hanswer).fault_eq, fun e hr => (hr ▸ hanswer).refused_cases⟩

/-- Settles O50: bytes are sent and lost only by the moves that the frames allow, and those of the sequencer
are of a running transaction, which has an owner. -/
theorem channelAccessNeedsLock : Obligations.ChannelAccessNeedsLock := by
  unfold Obligations.ChannelAccessNeedsLock
  intro m s t hi hn
  have hheld {ph : Phase} (hp : s.phase = ph) (hrun : ph ≠ .idle) : s.owner ≠ none := fun ho =>
    hrun (hp.symm.trans (hi.owner_eq_none_iff.mp ho))
  obtain ⟨hgrows, hsends⟩ := perform_outbound hi hn
  refine ⟨hgrows, fun hne => ?_, fun hlost => ?_⟩
  · obtain ⟨hseq, hp⟩ := hsends hne
    exact ⟨hseq, hheld hp (by decide), hp⟩
  · obtain ⟨hseq, hp⟩ | hother := perform_inbound hi hn hlost
    · exact .inl ⟨hseq, hheld hp (by decide), hp⟩
    · exact .inr hother

/-- Settles O51: the writer is FINISH, and `devinfoAfter` writes for Open and Close only. -/
theorem deviceInfoSingleWriter : Obligations.DeviceInfoSingleWriter := by
  unfold Obligations.DeviceInfoSingleWriter
  intro m s t hi hn hne
  obtain ⟨hseq, hp, hfree, c, r, hc, hinfo⟩ := perform_devinfo hi hn hne
  have hcode := (codeOf_of_cmdOfCode hc).symm
  refine ⟨hseq, mt hi.owner_eq_none_iff.mp hp, hfree, ?_⟩
  by_cases hopen : c = .openCmd
  · subst hopen
    refine .inl ⟨hcode, ?_⟩
    cases hok : classOk s.cfg r .init with
    | false => exact absurd (hinfo.trans (devinfoAfter_open_of_bad hok)) hne
    | true =>
      obtain ⟨b, v, hb, hv⟩ := decodeInit_of_classOk hok
      simp [hinfo, devinfoAfter_open_of_ok hok hb, hv]
  by_cases hclose : c = .closeCmd
  · subst hclose
    exact .inr ⟨hcode, hinfo⟩
  · exact absurd (hinfo.trans (devinfoAfter_of_other hopen hclose)) hne

/-- Settles O43: register 17 is the capacity, which the invariant ties to the configuration. -/
theorem capacityIsConstant : Obligations.CapacityIsConstant := by
  unfold Obligations.CapacityIsConstant
  refine ⟨fun s hi => ⟨hi.capacity, fun t hn => ?_⟩, by decide⟩
  obtain ⟨ms, k, heq⟩ := nextMove_snd s
  rw [step, heq] at hn
  have hmoves := hi.setMoves ms k
  have hcap : t.capacity = s.capacity := by
    rw [(hmoves.perform hn).capacity, perform_cfg hmoves hn, hi.capacity]
  exact hcap

end Sys2Proof.Proofs
end

section
/-!
SUPPORT. The register view (10_state.md R23 to R27): the bits of STATUS by the parts it is made of, the codes
ERROR can show, and the words of the device information.
-/

namespace Sys2Proof.Machine

/-! ### The parts of STATUS -/

/-- A flag shows in its own bit. -/
theorem getLsbD_flagBit (k : Nat) (b : Bool) (n : Nat) :
    (flagBit k b).getLsbD n = (b && (decide (k < 32) && decide (k = n))) := by
  cases b <;> simp [flagBit, BitVec.getLsbD_twoPow]

/-- A flag outside a field does not show in it. -/
theorem extractLsb'_flagBit {k : Nat} (b : Bool) {start len : Nat} (hk : k < start ∨ start + len ≤ k) :
    (flagBit k b).extractLsb' start len = 0 := by
  refine BitVec.eq_of_getLsbD_eq fun i hi => ?_
  have hne : k ≠ start + i := by omega
  simp [BitVec.getLsbD_extractLsb', getLsbD_flagBit, hne]

/-- The result's flags lie in the result's bits (R23). -/
theorem statusOfResult_and_mask (r : Result) :
    statusOfResult r &&& statusResultMask = statusOfResult r := by
  have hflag {k : Nat} (b : Bool) (hk : BitVec.twoPow 32 k &&& statusResultMask = BitVec.twoPow 32 k) :
      flagBit k b &&& statusResultMask = flagBit k b := by
    cases b
    · simp [flagBit]
    · exact hk
  simp only [statusOfResult, BitVec.and_or_distrib_right]
  rw [hflag _ (by decide), hflag _ (by decide), hflag _ (by decide), hflag _ (by decide),
    hflag _ (by decide), hflag _ (by decide), hflag _ (by decide), hflag _ (by decide),
    hflag _ (by decide)]

/-- A flag of the last response is false when there is none. -/
theorem respFlag_eq (r : Result) (f : Resp → Bool) : respFlag r f = (r.resp.map f).getD false := by
  unfold respFlag
  cases r.resp <;> rfl

/-- The result's flags, bit by bit (R23). -/
theorem getLsbD_statusOfResult (r : Result) (n : Nat) : (statusOfResult r).getLsbD n =
    (r.baseOk && decide (2 = n) || r.classOk && decide (3 = n)
      || (r.resp.map Resp.hdrOk).getD false && decide (4 = n)
      || (r.resp.map fun x => x.dp.isSome).getD false && decide (5 = n)
      || (r.resp.map Resp.dpOk).getD false && decide (6 = n)
      || (r.resp.map Resp.synth).getD false && decide (7 = n)
      || decide (r.kind = .cancelled) && decide (8 = n)
      || r.stage2 && decide (10 = n) || r.ovf && decide (15 = n)) := by
  simp [statusOfResult, getLsbD_flagBit, respFlag_eq, beq_eq_decide]

/-- STATUS with the word `x` in the result's bits (R23); `statusReg_eq` says what `x` is. -/
def statusWith (s : State) (x : Word32) : Word32 :=
  flagBit 0 s.owner.isSome ||| flagBit 1 s.doneFlag ||| (x &&& statusResultMask)
    ||| flagBit 11 s.devinfo.isSome ||| s.phase.code <<< 12 ||| BitVec.ofNat 32 s.stage.val <<< 16

/-- The result's bits of STATUS are the result's flags while DONE = 1 (R23). -/
theorem statusReg_eq (s : State) : ∃ x, (s.doneFlag = true → x = statusOfResult s.result) ∧
    readRegister s 0 = statusWith s x := by
  cases hdone : s.doneFlag with
  | false => exact ⟨freeField s 0, by simp, by simp [readRegister, statusReg, statusWith, hdone]⟩
  | true =>
    exact ⟨statusOfResult s.result, fun _ => rfl,
      by simp [readRegister, statusReg, statusWith, hdone, statusOfResult_and_mask]⟩

/-- The phase's code shows in bits 12 to 14 only. -/
theorem getLsbD_phase (ph : Phase) : ∀ n < 32, n < 12 ∨ 15 ≤ n → (ph.code <<< 12).getLsbD n = false := by
  cases ph <;> decide

/-- The stage shows in bits 16 and 17 only. -/
theorem getLsbD_stage : ∀ st : Fin 3, ∀ n < 32, n < 16 ∨ 18 ≤ n →
    (BitVec.ofNat 32 st.val <<< 16).getLsbD n = false := by
  decide

/-- A single bit of STATUS outside PHASE and STAGE. -/
theorem getLsbD_statusWith (s : State) (x : Word32) {n : Nat} (hn : n < 12 ∨ n = 15) :
    (statusWith s x).getLsbD n =
      (s.owner.isSome && decide (0 = n) || s.doneFlag && decide (1 = n) ||
        x.getLsbD n && statusResultMask.getLsbD n || s.devinfo.isSome && decide (11 = n)) := by
  simp only [statusWith, BitVec.getLsbD_or, BitVec.getLsbD_and, getLsbD_flagBit,
    getLsbD_phase s.phase n (by omega) (by omega), getLsbD_stage s.stage n (by omega) (by omega)]
  simp

/-- A field of STATUS behind the flags. -/
theorem extractLsb'_statusWith (s : State) (x : Word32) {start len : Nat} (hstart : 12 ≤ start)
    (hmask : statusResultMask.extractLsb' start len = 0) :
    (statusWith s x).extractLsb' start len = (s.phase.code <<< 12).extractLsb' start len
      ||| (BitVec.ofNat 32 s.stage.val <<< 16).extractLsb' start len := by
  simp only [statusWith, BitVec.extractLsb'_or, BitVec.extractLsb'_and, hmask,
    extractLsb'_flagBit _ (show 0 < start ∨ start + len ≤ 0 by omega),
    extractLsb'_flagBit _ (show 1 < start ∨ start + len ≤ 1 by omega),
    extractLsb'_flagBit _ (show 11 < start ∨ start + len ≤ 11 by omega)]
  simp

/-! ### ERROR -/

/-- While DONE = 1 ERROR is the kind's code, since the result is no rejection (R24). -/
theorem Inv.errorReg_of_done {s : State} (hi : Inv s) (hdone : s.doneFlag = true) :
    s.result.kind ≠ .construction ∧ errorReg s = s.result.kind.code := by
  have hkind : s.result.kind ≠ .construction := by
    have hres := hi.result
    simp only [resultOk, Bool.and_eq_true, bne_iff_ne] at hres
    exact hres.1.1.1
  exact ⟨hkind, by simp [errorReg, hdone, hkind]⟩

/-- The codes of the kinds that a result can have (R24). -/
theorem ErrKind.code_of_ne_construction {k : ErrKind} (hk : k ≠ .construction) :
    k.code = 0 ∨ k.code = 1 ∨ k.code = 2 ∨ k.code = 3 ∨ k.code = 4 ∨ k.code = 6 := by
  cases k <;> simp_all [ErrKind.code]

/-- A free kind is none of a rejection (R24, log 17). -/
theorem freeKind_ne_construction (v : Word32) : freeKind v ≠ .construction := by
  unfold freeKind
  split <;> decide

/-! ### The device information -/

/-- A word of a slice is a word of the buffer. -/
theorem u32le_slice (d : Bytes) {i j k : Nat} (hk : i + k + 3 ≤ j) :
    u32le (slice d i j) k = u32le d (i + k) := by
  have hbyte (n : Nat) (hn : i + n ≤ j) : (slice d i j)[n]? = d[i + n]? := by
    rw [slice, List.getElem?_take, if_pos (by omega), List.getElem?_drop]
  simp only [u32le, hbyte k (by omega), hbyte (k + 1) (by omega), hbyte (k + 2) (by omega),
    hbyte (k + 3) (by omega), Nat.add_assoc]

/-- The serial registers show the bytes from 8 on, word by word (R25, D19). -/
theorem serialReg_of_decodeInit {s : State} {d : Bytes} (hd : d.length = 24)
    (hinfo : s.devinfo = decodeInit d) {k : Nat} (hk : k < 4) :
    u32le d (8 + 4 * k) = some (serialReg s k) := by
  obtain ⟨v, hv, -, -, hserial⟩ := decodeInit_of_length hd
  rw [serialReg, hinfo, hv]
  dsimp only
  rw [hserial, u32le_slice d (by omega), u32le_eq_some (by omega)]
  rfl

/-- Without device information its registers read 0 (R25, D20). -/
theorem readRegister_of_no_devinfo {s : State} (hinfo : s.devinfo = none) {n : Nat} (hlow : 11 ≤ n)
    (hhigh : n ≤ 16) : readRegister s n = 0 := by
  obtain rfl | rfl | rfl | rfl | rfl | rfl :
      n = 11 ∨ n = 12 ∨ n = 13 ∨ n = 14 ∨ n = 15 ∨ n = 16 := by omega
  all_goals simp [readRegister, serialReg, hinfo]

end Sys2Proof.Machine

namespace Sys2Proof.Proofs
open Sys2Proof.Machine

/-- Settles O38: RDREG writes the reply record alone, which no register shows. -/
theorem registerReadHasNoEffect : Obligations.RegisterReadHasNoEffect := by
  unfold Obligations.RegisterReadHasNoEffect
  refine fun s h n => ⟨rfl, fun hn => ?_, fun m => rfl⟩
  unfold readRegister
  split
  case h_20 => rfl
  all_goals omega

/-- Settles O39: each bit and field of STATUS from the parts that can show in it. -/
theorem statusLayout : Obligations.StatusLayout := by
  unfold Obligations.StatusLayout
  intro s
  obtain ⟨x, hx, heq⟩ := statusReg_eq s
  rw [heq]
  have hmask : ∀ n < 16, statusResultMask.getLsbD n = decide (2 ≤ n ∧ n ≠ 9 ∧ n ≤ 10 ∨ n = 15) := by
    decide
  have hplain (n : Nat) (hn : n < 12) (hr : ¬(2 ≤ n ∧ n ≠ 9 ∧ n ≤ 10 ∨ n = 15)) :
      (statusWith s x).getLsbD n = (s.owner.isSome && decide (0 = n) || s.doneFlag && decide (1 = n)
        || s.devinfo.isSome && decide (11 = n)) := by
    rw [getLsbD_statusWith s x (.inl hn), hmask n (by omega)]
    simp [hr]
  refine ⟨(hplain 0 (by omega) (by omega)).trans (by simp),
    (hplain 1 (by omega) (by omega)).trans (by simp), (hplain 9 (by omega) (by omega)).trans (by simp),
    (hplain 11 (by omega) (by omega)).trans (by simp), ?phase, ?stage, ?reserved, fun hdone => ?result⟩
  case phase =>
    rw [extractLsb'_statusWith s x le_rfl (by decide)]
    have hstage : ∀ st : Fin 3, (BitVec.ofNat 32 st.val <<< 16).extractLsb' 12 3 = 0 := by decide
    rw [hstage]
    cases s.phase <;> rfl
  case stage =>
    rw [extractLsb'_statusWith s x (by omega) (by decide)]
    have hphase : (s.phase.code <<< 12).extractLsb' 16 2 = 0 := by cases s.phase <;> rfl
    have hstage : ∀ st : Fin 3,
        (BitVec.ofNat 32 st.val <<< 16).extractLsb' 16 2 = BitVec.ofNat 2 st.val := by decide
    rw [hphase, hstage]
    simp
  case reserved =>
    rw [extractLsb'_statusWith s x (by omega) (by decide)]
    have hphase : (s.phase.code <<< 12).extractLsb' 18 14 = 0 := by cases s.phase <;> rfl
    have hstage : ∀ st : Fin 3, (BitVec.ofNat 32 st.val <<< 16).extractLsb' 18 14 = 0 := by decide
    rw [hphase, hstage]
    rfl
  case result =>
    have hflag (n : Nat) (hn : 2 ≤ n ∧ n ≠ 9 ∧ n ≤ 10 ∨ n = 15) :
        (statusWith s x).getLsbD n = (statusOfResult s.result).getLsbD n := by
      have h0 : 0 ≠ n := by omega
      have h1 : 1 ≠ n := by omega
      have h11 : 11 ≠ n := by omega
      rw [getLsbD_statusWith s x (by omega), hx hdone, hmask n (by omega)]
      simp [h0, h1, h11, hn]
    simp only [getLsbD_statusOfResult] at hflag
    exact ⟨(hflag 2 (by omega)).trans (by simp), (hflag 3 (by omega)).trans (by simp),
      (hflag 4 (by omega)).trans (by simp), (hflag 5 (by omega)).trans (by simp),
      (hflag 6 (by omega)).trans (by simp), (hflag 7 (by omega)).trans (by simp),
      (hflag 8 (by omega)).trans (by simp), (hflag 10 (by omega)).trans (by simp),
      (hflag 15 (by omega)).trans (by simp)⟩

/-- Settles O40: the kinds a result and a free value can have. -/
theorem errorRegisterKinds : Obligations.ErrorRegisterKinds := by
  unfold Obligations.ErrorRegisterKinds
  intro s hi
  refine ⟨fun hdone => ⟨?_, by simp [readRegister, hdone]⟩, ?_⟩
  · rw [readRegister, (hi.errorReg_of_done hdone).2]
    cases s.result.kind <;> rfl
  · cases hdone : s.doneFlag with
    | true =>
      obtain ⟨hkind, heq⟩ := hi.errorReg_of_done hdone
      simpa only [readRegister, heq] using ErrKind.code_of_ne_construction hkind
    | false =>
      simpa [readRegister, errorReg, hdone] using
        ErrKind.code_of_ne_construction (freeKind_ne_construction (freeField s 9))

/-- Settles O41: DECODE_INIT's fields, and the serial number's words. -/
theorem deviceInfoRegisters : Obligations.DeviceInfoRegisters := by
  unfold Obligations.DeviceInfoRegisters
  refine fun s => ⟨fun d hd hinfo => ?_, fun hinfo n => readRegister_of_no_devinfo hinfo⟩
  obtain ⟨v, hv, hfw, hiso, -⟩ := decodeInit_of_length hd
  have hserial {k : Nat} (hk : k < 4) := serialReg_of_decodeInit hd hinfo hk
  refine ⟨?_, ?_, hserial (k := 0) (by omega), hserial (k := 1) (by omega),
    hserial (k := 2) (by omega), hserial (k := 3) (by omega)⟩
  · simpa [readRegister, hinfo, hv] using hfw
  · simpa [readRegister, hinfo, hv] using hiso

/-- Settles O42: each view reads its field, in the cases of R27. -/
theorem sequencerRegisters : Obligations.SequencerRegisters := by
  unfold Obligations.SequencerRegisters
  intro s
  refine ⟨(BitVec.ofNat_toNat ..).symm, rfl, rfl, fun hd => ?_, fun d hd => ?_, rfl, fun ho => ?_, fun ho hdone r hr => ?_,
    fun hdone => ⟨fun r hr => ?_, fun hr => ?_⟩, fun ho => ?_, fun h ho => ?_⟩
  · simp [readRegister, hd]
  · simp [readRegister, hd]
  · simp [readRegister, rxlenReg, Option.isSome_iff_ne_none.mpr ho]
  · simp [readRegister, rxlenReg, ho, hdone, hr]
  · simp [readRegister, hdone, hr]
  · simp [readRegister, hdone, hr]
  · simp [readRegister, ho]
  · simp [readRegister, ho]

/-- Settles O44: the launch state's fields are those of R31, and it has no device information. -/
theorem resetValues : Obligations.ResetValues := by
  unfold Obligations.ResetValues
  exact ⟨rfl, rfl, rfl, rfl, rfl, rfl, rfl, rfl, rfl, rfl, rfl, fun _ => rfl, rfl,
    fun n => readRegister_of_no_devinfo rfl, rfl, rfl⟩

end Sys2Proof.Proofs
end

section
/-!
SUPPORT. The host port and the environment by their cases (44_transaction_sequencer.md R107 to R121, 46 R154,
70 R180), and the step as the next move's.
-/

namespace Sys2Proof.Machine

variable {s : State} {h : HostId}

/-! ### SUBMIT, CANCEL, TAKE -/

section submit
variable {code : Word16} {param : Word32} {data : Option Bytes} {timeoutMs : Word32}

theorem submitOp_of_outstanding (hout : outstanding s h = true) :
    submitOp h code param data timeoutMs s = .refused .submitWhileOutstanding :=
  if_pos hout

theorem submitOp_of_passed (hout : outstanding s h = false)
    (hck : checkRequest s.cfg code data = .noReject) : submitOp h code param data timeoutMs s =
      .next { s with
        mailbox := mapErase s.mailbox h
        waiters := mapSet s.waiters h { code, param, data, timeoutMs, host := some h } } := by
  simp [submitOp, hout, hck]

theorem submitOp_of_rejected (hout : outstanding s h = false)
    (hck : checkRequest s.cfg code data ≠ .noReject) : submitOp h code param data timeoutMs s =
      .next (s.deliver h (rejectedResult (checkRequest s.cfg code data))) := by
  unfold submitOp
  rw [if_neg (by simp [hout])]
  split
  · rename_i hpass
    exact absurd hpass hck
  · rfl

end submit

theorem cancelOp_of_idle (ho : s.owner ≠ some h) (hw : mapGet s.waiters h = none) : cancelOp h s = s := by
  simp [cancelOp, ho, hw]

theorem takeOp_of_result {r : Result} (hr : mapGet s.mailbox h = some r) : takeOp h s = { s with
    mailbox := mapErase s.mailbox h, taken := mapSet s.taken h r, reply := some (.result h r) } := by
  rw [takeOp, hr]

theorem takeOp_of_empty (hr : mapGet s.mailbox h = none) : takeOp h s = s := by
  rw [takeOp, hr]

/-! ### The port and reset -/

theorem portOpenOp_of_ok {baud : Word32} (hopen : s.openAnswer = true) :
    portOpenOp baud s = { s with port := some baud, inbound := heldBytes s } :=
  if_pos hopen

theorem portOpenOp_of_failed {baud : Word32} (hopen : s.openAnswer = false) : portOpenOp baud s = s :=
  if_neg (by simp [hopen])

theorem resetOp_of_outstanding (hout : s.waiters ≠ [] ∨ s.owner ≠ none ∨ s.mailbox ≠ []) :
    resetOp s = .refused .resetWhileOutstanding :=
  if_pos hout

theorem resetOp_of_launched (hout : ¬(s.waiters ≠ [] ∨ s.owner ≠ none ∨ s.mailbox ≠ []))
    (hlaunch : ¬(s.toFramer = Framer.reset s.cfg ∧ s.now = 0)) :
    resetOp s = .refused .resetAfterLaunch := by
  have hbool : ¬atLaunch s = true := by simpa [atLaunch] using hlaunch
  rw [resetOp, if_neg hout, if_neg hbool]

/-! ### The step -/

theorem step_of_listed {m : Move} {ms : List Move} (hm : s.moves = m :: ms) :
    step s = perform m { s with moves := ms } := by
  simp only [step, nextMove, hm]

theorem step_of_free (hm : s.moves = []) :
    step s = perform (Config.freeMove s.freeMoves) { s with freeMoves := s.freeMoves + 1 } := by
  simp only [step, nextMove, hm]

/-- The sequencer's move in a running transaction executes the decoded request. -/
theorem seqMove_of_decoded {i : Instr} (hp : s.phase ≠ .idle) (hreq : instrOf s.cfg s.req = .ok i) :
    seqMove s = exec i s := by
  rw [seqMove_of_running hp, runReq_of_instrOf hreq]

/-- GRANT executes the picked waiter's decoded request, latched. -/
theorem grantMove_of_decoded {r : Request} {i : Instr} (ho : s.owner = none) (hp : s.phase = .idle)
    (hw : mapGet s.waiters h = some r) (hreq : instrOf s.cfg r = .ok i) :
    grantMove h s = exec i (s.latch h r) := by
  rw [grantMove_of_waiting ho hp hw, runReq_of_instrOf (s := s.latch h r) hreq]

theorem seqMove_of_idle (hp : s.phase = .idle) : seqMove s = .next s := by
  rw [seqMove, hp]

/-- GRANT waits while the lock is held or the picked host does not wait (log 9). -/
theorem grantMove_of_blocked (hb : s.owner ≠ none ∨ mapGet s.waiters h = none) :
    grantMove h s = .next s := by
  unfold grantMove
  split
  · rename_i ho _ hw
    rcases hb with hheld | hnone
    · exact absurd ho hheld
    · rw [hnone] at hw
      cases hw
  · rfl

end Sys2Proof.Machine

namespace Sys2Proof.Proofs
open Sys2Proof.Machine

/-- Settles O34, by the three cases of SUBMIT. -/
theorem submitJoinsOrRejects : Obligations.SubmitJoinsOrRejects := by
  unfold Obligations.SubmitJoinsOrRejects
  intro s h code p data tmo
  refine ⟨fun hw ho hm => ?_, fun hout => ?_⟩
  · have hout := outstanding_eq_false_iff.mpr ⟨hw, ho, hm⟩
    exact ⟨submitOp_of_passed hout, submitOp_of_rejected hout⟩
  · refine submitOp_of_outstanding (Bool.eq_true_of_not_eq_false fun hnone => ?_)
    obtain ⟨hw, ho, hm⟩ := outstanding_eq_false_iff.mp hnone
    tauto

/-- Settles O35: CANCEL of the owner releases, with the CANCELLED result, whose kind STATUS bit 8 shows. -/
theorem cancelAbandonsRunning : Obligations.CancelAbandonsRunning := by
  unfold Obligations.CancelAbandonsRunning
  refine ⟨fun s h ho hw => congrArg _ (cancelOp_of_idle ho hw), fun s h ho hp => ?_⟩
  refine ⟨_, rfl, _, rfl, congrArg _ (cancelOp_of_running ho hp), ?_⟩
  obtain ⟨-, -, -, -, -, -, -, hresult⟩ := statusLayout { s with
    result := cancelledResult (s.stage == 2)
    mailbox := mapSet s.mailbox h (cancelledResult (s.stage == 2))
    owner := none
    phase := .idle
    stage := 0
    rxbuf := []
    doneFlag := true }
  obtain ⟨-, -, -, -, -, -, haborted, -, -⟩ := hresult rfl
  exact haborted

/-- Settles O37, by the two cases of TAKE. -/
theorem takeDeliversMailbox : Obligations.TakeDeliversMailbox := by
  unfold Obligations.TakeDeliversMailbox
  exact fun s h => ⟨fun r hr => congrArg _ (takeOp_of_result hr), fun hr => congrArg _ (takeOp_of_empty hr)⟩

/-- Settles O52: the step is the next move's, and the sequencer's moves run the decoded instruction. -/
theorem stepRunsDecodedInstruction : Obligations.StepRunsDecodedInstruction := by
  unfold Obligations.StepRunsDecodedInstruction
  intro s ms
  refine ⟨fun i hm hp hreq => ?seq, fun h r i hm ho hp hw hreq => ?grant, fun hm hp => ?idle,
    fun h hm hb => ?blocked, fun m => step_of_listed, step_of_free⟩
  case seq =>
    rw [step_of_listed hm]
    exact seqMove_of_decoded (s := { s with moves := ms }) hp hreq
  case grant =>
    rw [step_of_listed hm]
    exact grantMove_of_decoded (s := { s with moves := ms }) ho hp hw hreq
  case idle =>
    rw [step_of_listed hm]
    exact seqMove_of_idle (s := { s with moves := ms }) hp
  case blocked =>
    rw [step_of_listed hm]
    exact grantMove_of_blocked (s := { s with moves := ms }) hb

/-- Settles O56: each move is one record update, and reset by its three cases. -/
theorem environmentMovesAndReset : Obligations.EnvironmentMovesAndReset := by
  unfold Obligations.EnvironmentMovesAndReset
  intro s
  refine ⟨fun b => rfl, rfl, fun a openOk keeps => rfl, fun h baud hopen => ?_, fun h baud hopen => ?_,
    fun h => rfl, fun hf hn => ?_, resetOp_of_outstanding, fun hw ho hm hlaunch => ?_⟩
  · rw [perform, portOpenOp_of_ok hopen, hopen]
    rfl
  · rw [perform, portOpenOp_of_failed hopen, hopen]
  · exact (State.resetOp_eq_next_iff s s).mpr ⟨⟨hf, hn⟩, rfl⟩
  · refine resetOp_of_launched (by simp [hw, ho, hm]) ?_
    rintro ⟨hf, hn⟩
    exact hlaunch.elim (fun hne => hne hf) (fun hne => hne hn)

end Sys2Proof.Proofs
end

section
/-!
SUPPORT. The client sequences (46_client_sequences.md R154 to R165): how an operation begins, what a task's step
does, and the decisions between the steps.
-/

namespace Sys2Proof.Machine

variable {cfg : Config} {s : State} {h : HostId}

/-! ### Starting an operation -/

theorem startOp_of_idle (op : ClientOp) (hidle : clientIdle s h = true) :
    startOp h op s = s.setTask h (beginOp s.cfg s.capacity s.now op) :=
  if_pos hidle

theorem startOp_of_busy (op : ClientOp) (hbusy : clientIdle s h = false) : startOp h op s = s :=
  if_neg (by simp [hbusy])

theorem inRange_eq_false_iff {v lo hi : Int} : inRange v lo hi = false ↔ v < lo ∨ hi < v := by
  simp only [inRange, Bool.and_eq_false_iff, decide_eq_false_iff_not, not_le]

/-- The arguments that the checks of R155 and R156 refuse. -/
theorem argumentOk_eq_false_iff {cap : Word32} {c : Cmd} {p : Word32} : argumentOk cfg cap c p = false ↔
    ((c = .enrollStart ∨ c = .enroll1 ∨ c = .enroll2 ∨ c = .enroll3) ∧
      (p.toInt < -1 ∨ cap.toInt < p.toInt)) ∨
    ((c = .deleteId ∨ c = .verify ∨ c = .verifyTemplate ∨ c = .getTemplate ∨ c = .setTemplate) ∧
      (p.toInt < 0 ∨ cap.toInt < p.toInt)) ∨
    (c = .setSecurityLevel ∧
      (p.toInt < cfg.secLevelMin.toInt ∨ cfg.secLevelMax.toInt < p.toInt)) := by
  cases c <;> simp [argumentOk, inRange_eq_false_iff]

/-- The time-out column of R60. -/
theorem clientTimeout_eq (c : Cmd) : clientTimeout cfg c =
    if c = .enroll1 ∨ c = .enroll2 ∨ c = .enroll3 then cfg.enrollTimeoutMs
    else if c = .isPressFinger then cfg.fingerQueryTimeoutMs
    else cfg.defaultTimeoutMs := by
  cases c <;> rfl

theorem beginOp_command_of_bad {cap : Word32} {now : Nat} {c : Cmd} {p : Word32} {d : Option Bytes}
    {tmo : Option Word32} (hbad : argumentOk cfg cap c p = false) :
    beginOp cfg cap now (.command c p d tmo) = .finished (.result argumentResult) := by
  simp [beginOp, hbad]

theorem beginOp_command_of_ok {cap : Word32} {now : Nat} {c : Cmd} {p : Word32} {d : Option Bytes}
    {tmo : Option Word32} (hok : argumentOk cfg cap c p = true) :
    beginOp cfg cap now (.command c p d tmo) =
      .submit c p d (tmo.getD (clientTimeout cfg c)) .command := by
  simp [beginOp, hok]

theorem enrollCommand_eq_none {k : Int} (hk : k ≠ 1 ∧ k ≠ 2 ∧ k ≠ 3) : enrollCommand k = none := by
  simp [enrollCommand, hk]

/-- An iteration or a user id out of range ends an enrollment at once (R157). -/
theorem beginOp_enroll_of_bad {cap : Word32} {now : Nat} {k : Int} {u : Word32}
    (hbad : (k ≠ 1 ∧ k ≠ 2 ∧ k ≠ 3) ∨ u.toInt < -1 ∨ cap.toInt < u.toInt) :
    beginOp cfg cap now (.enroll k u) = .finished (.result argumentResult) := by
  cases hc : enrollCommand k with
  | none => simp [beginOp, hc]
  | some c =>
    have hrange : inRange u.toInt (-1) cap.toInt = false := by
      rw [inRange_eq_false_iff]
      refine hbad.resolve_left fun hk => ?_
      rw [enrollCommand_eq_none hk] at hc
      cases hc
    simp [beginOp, hc, hrange]

section enroll
variable {cap : Word32} {now : Nat} {u : Word32} (hlow : -1 ≤ u.toInt) (hhigh : u.toInt ≤ cap.toInt)
include hlow hhigh

theorem inRange_userId : inRange u.toInt (-1) cap.toInt = true := by
  simp [inRange, hlow, hhigh]

/-- Iteration 1 begins with EnrollStart (R160). -/
theorem beginOp_enroll_first : beginOp cfg cap now (.enroll 1 u) =
    txn .enrollStart u (clientTimeout cfg .enrollStart) (.enrollStartReply .enroll1 u) := by
  simp [beginOp, enrollCommand, inRange_userId hlow hhigh]

/-- Iterations 2 and 3 begin with the capture (R160). -/
theorem beginOp_enroll_later {k : Int} {c : Cmd}
    (hk : (k = 2 ∧ c = .enroll2) ∨ (k = 3 ∧ c = .enroll3)) : beginOp cfg cap now (.enroll k u) =
      beginCapture cfg now .template cfg.fingerPlaceWaitMs (.enroll c u) := by
  obtain ⟨rfl, rfl⟩ | ⟨rfl, rfl⟩ := hk <;>
    simp [beginOp, enrollCommand, inRange_userId hlow hhigh]

end enroll

/-! ### The steps of a task -/

/-- Without a task to run, a host makes no client step. -/
theorem clientOp_of_idle (hidle : clientIdle s h = true) : clientOp h s = .next s := by
  unfold clientIdle at hidle
  unfold clientOp
  split at hidle <;> rename_i htask
  · rw [htask]
  · rw [htask]
  · cases hidle

theorem clientOp_submit {c : Cmd} {p : Word32} {d : Option Bytes} {tmo : Word32} {k : Cont}
    (htask : mapGet s.clients h = some (.submit c p d tmo k)) :
    clientOp h s = submitOp h (s.cfg.codeOf c) p d tmo (s.setTask h (.take k)) := by
  rw [clientOp, htask]

section take
variable {k : Cont} (htask : mapGet s.clients h = some (.take k))
include htask

theorem clientOp_take_of_result {r : Result} (hr : mapGet s.mailbox h = some r) :
    clientOp h s = .next ((takeOp h s).setTask h (afterResult s.cfg s.now r k)) := by
  simp only [clientOp, htask, hr]

theorem clientOp_take_of_empty (hr : mapGet s.mailbox h = none) : clientOp h s = .next s := by
  simp only [clientOp, htask, hr]

end take

section delay
variable {until_ : Nat} {k : Cont} (htask : mapGet s.clients h = some (.delay until_ k))
include htask

theorem clientOp_delay_of_due (hdue : until_ ≤ s.now) :
    clientOp h s = .next (s.setTask h (afterDelay s.cfg k)) := by
  simp only [clientOp, htask, if_pos hdue]

theorem clientOp_delay_of_early (hearly : s.now < until_) : clientOp h s = .next s := by
  simp only [clientOp, htask, if_neg (show ¬until_ ≤ s.now by omega)]

end delay

section port
variable {b : Word32} {k : Cont}

theorem clientOp_portOpen_of_ok (htask : mapGet s.clients h = some (.portOpen b k))
    (hopen : s.openAnswer = true) :
    clientOp h s = .next ((portOpenOp b s).setTask h (afterPort s.cfg s.now k)) := by
  simp only [clientOp, htask, if_pos hopen]

theorem clientOp_portOpen_of_failed (htask : mapGet s.clients h = some (.portOpen b k))
    (hopen : s.openAnswer = false) : clientOp h s = .next (s.setTask h (.finished .fatal)) := by
  simp only [clientOp, htask, hopen, Bool.false_eq_true, if_false]

theorem clientOp_portClose (htask : mapGet s.clients h = some (.portClose k)) :
    clientOp h s = .next ((portCloseOp s).setTask h (afterPort s.cfg s.now k)) := by
  simp only [clientOp, htask]

end port

/-! ### The decisions between the steps -/

/-- The sensor reads pressed when the query's response carries the pressed value (D24). -/
theorem pressed_eq (cfg : Config) (r : Result) :
    pressed cfg r = decide (r.resp.map Resp.param = some cfg.pressedValue) := by
  unfold pressed
  cases r.resp <;> simp [beq_eq_decide]

/-- The tests of WAIT_FOR_FINGER in their order (R158). -/
theorem fingerDecision_eq (cfg : Config) (now : Nat) (f : Finger) (r : Result) :
    fingerDecision cfg now f r =
      if r.baseOk = false then afterWait cfg false f.after
      else if (f.action = .place ∧ r.resp.map Resp.param = some cfg.pressedValue) ∨
          (f.action = .remove ∧ r.resp.map Resp.param ≠ some cfg.pressedValue) then
        afterWait cfg true f.after
      else if f.t0 + f.timeoutMs ≤ now then afterWait cfg false f.after
      else .delay (now + cfg.pollMs) (.fingerAgain f) := by
  unfold fingerDecision
  rw [pressed_eq]
  cases f.action <;> simp

/-- FNP is unsuccessful under every class, since its code is NACK (R159). -/
theorem classOk_fnp (hwf : cfg.wf = true) (cls : RespClass) : classOk cfg (fnp cfg) cls = false := by
  obtain ⟨-, -, -, -, -, hack, hnack, -⟩ := Config.wf_rows hwf
  refine Bool.eq_false_iff.mpr fun hok => ?_
  have hbase := baseOk_of_classOk hok
  simp [baseOk, fnp, hack, hnack] at hbase

/-- The kind of FNP is the device's, with FNP's code, when that is no user id (R92, R93). -/
theorem kindOf_fnp (hwf : cfg.wf = true) (hcode : 0x1001 ≤ cfg.errFingerNotPressed.toInt) (cls : RespClass) :
    kindOf cfg (fnp cfg) cls = (.device, cfg.errFingerNotPressed) := by
  rw [kindOf_of_not_classOk rfl (classOk_fnp hwf cls), errorCode_of_deviceCode hwf rfl (.inr hcode)]
  rfl

theorem afterCapture_enroll_of_ok {r : Result} {c : Cmd} {u : Word32} (hok : r.classOk = true) :
    afterCapture cfg r (.enroll c u) = txn c u cfg.enrollTimeoutMs .enrollReply :=
  if_pos hok

theorem afterCapture_enroll_of_bad {r : Result} {c : Cmd} {u : Word32} (hbad : r.classOk = false) :
    afterCapture cfg r (.enroll c u) = .finished (.result r) :=
  if_neg (by simp [hbad])

/-- A capture's response is classified again (R159). -/
theorem reclassified_of_resp {r : Result} {x : Resp} (hx : r.resp = some x) (cls : RespClass) :
    reclassified cfg r cls = resultOf cfg x cls r.stage2 r.ovf := by
  rw [reclassified, hx]

theorem reclassified_of_none {r : Result} (hx : r.resp = none) (cls : RespClass) :
    reclassified cfg r cls = r := by
  rw [reclassified, hx]

end Sys2Proof.Machine

namespace Sys2Proof.Proofs
open Sys2Proof.Machine

/-- Settles O57: what each operation begins with, by its argument checks. -/
theorem clientArgumentChecks : Obligations.ClientArgumentChecks := by
  unfold Obligations.ClientArgumentChecks
  refine ⟨fun s h hidle => ⟨fun c p d tmo bad hbad => ⟨fun hb => ?bad, fun hb => ?ok⟩,
      fun iteration u => ⟨fun hb => ?badEnroll, fun hlow hhigh => ⟨?first, fun c hc => ?later⟩⟩,
      fun cls tmo => ?capture, clientOp_of_idle hidle⟩,
    fun s h op hbusy => congrArg _ (startOp_of_busy op hbusy),
    fun s h c p d tmo k htask => clientOp_submit htask⟩
  case bad =>
    rw [perform, startOp_of_idle _ hidle,
      beginOp_command_of_bad (argumentOk_eq_false_iff.mpr (hbad.mp hb))]
    rfl
  case ok =>
    have hok : argumentOk s.cfg s.capacity c p = true :=
      Bool.eq_true_of_not_eq_false fun h => hb (hbad.mpr (argumentOk_eq_false_iff.mp h))
    rw [perform, startOp_of_idle _ hidle, beginOp_command_of_ok hok, clientTimeout_eq]
    rfl
  case badEnroll =>
    rw [perform, startOp_of_idle _ hidle, beginOp_enroll_of_bad hb]
    rfl
  case first =>
    rintro rfl
    rw [perform, startOp_of_idle _ hidle, beginOp_enroll_first hlow hhigh]
    rfl
  case later =>
    rw [perform, startOp_of_idle _ hidle, beginOp_enroll_later hlow hhigh hc]
    rfl
  case capture =>
    rw [perform, startOp_of_idle _ hidle]
    rfl

/-- Settles O58: the steps of a TAKE and a DELAY, and the decision after a query. -/
theorem fingerWaitDecides : Obligations.FingerWaitDecides := by
  unfold Obligations.FingerWaitDecides
  refine ⟨fun s h k htask => ⟨fun r hr => ?take, clientOp_take_of_empty htask⟩,
    fun s h until_ k htask => ⟨clientOp_delay_of_due htask, clientOp_delay_of_early htask⟩,
    fun s h a tmo hidle => ?start, fun cfg now f r => ⟨fingerDecision_eq cfg now f r, rfl, fun b => rfl⟩⟩
  case take =>
    rw [perform, clientOp_take_of_result htask hr, takeOp_of_result hr]
    rfl
  case start =>
    rw [perform, startOp_of_idle _ hidle]
    rfl

/-- Settles O59: what follows a capture, its reclassification, and FNP. -/
theorem captureAndEnrollSequence : Obligations.CaptureAndEnrollSequence := by
  unfold Obligations.CaptureAndEnrollSequence
  intro cfg now cls k c u r
  refine ⟨rfl, rfl, fun hwf => afterCapture_enroll_of_bad (classOk_fnp hwf cls), fun hcode hwf => ?fnp,
    fun x hx => ⟨?alone, fun hok => ?enrolls, fun hbad => ?ends⟩, fun hnone => ?cancelled,
    fun hbad => ?startFailed, fun hok => ?started, rfl, afterCapture_enroll_of_bad,
    afterCapture_enroll_of_ok, rfl, rfl⟩
  case fnp => exact ⟨congrArg Prod.fst (kindOf_fnp hwf hcode cls), congrArg Prod.snd (kindOf_fnp hwf hcode cls)⟩
  case alone =>
    rw [afterResult, reclassified_of_resp hx]
    rfl
  case enrolls =>
    rw [afterResult, reclassified_of_resp hx]
    exact afterCapture_enroll_of_ok hok
  case ends =>
    rw [afterResult, reclassified_of_resp hx]
    exact afterCapture_enroll_of_bad hbad
  case cancelled => rw [afterResult, reclassified_of_none hnone]
  case startFailed => exact if_neg (by simp [hbad])
  case started => exact if_pos hok

/-- Settles O60: the steps that open and close the port, and what follows each step of a session. -/
theorem sessionOpenCloseSequence : Obligations.SessionOpenCloseSequence := by
  unfold Obligations.SessionOpenCloseSequence
  refine ⟨fun s h hidle => ⟨?opens, ?closes⟩, fun s h b k => clientOp_portOpen_of_failed,
    fun s h b k htask hopen => ?opened, fun s h k => clientOp_portClose, fun cfg now r => ?sequence⟩
  case opens =>
    rw [perform, startOp_of_idle _ hidle]
    rfl
  case closes =>
    rw [perform, startOp_of_idle _ hidle]
    rfl
  case opened =>
    rw [perform, clientOp_portOpen_of_ok htask hopen, portOpenOp_of_ok hopen]
    rfl
  case sequence =>
    refine ⟨rfl, rfl, rfl, rfl, fun hne => if_neg hne, fun heq => if_pos heq, fun hok => if_pos ?_,
      fun hbad hkind => if_neg ?_, rfl, rfl, fun hbad => if_neg ?_, fun hok => if_pos hok, rfl, rfl, rfl⟩
    · simpa using hok
    · simp [hbad, hkind]
    · simp [hbad]

end Sys2Proof.Proofs
end

section
/-!
SUPPORT. A whole transaction of a command without attached data (45_commands.md R128), as a run of seven steps:
one rule of the run per step, from the rules of the sequencer.
-/

namespace Sys2Proof.Machine

variable {s : State} {k : Nat} {h : HostId} {i : Instr} {ms : List Move}

/-- A run goes on from the state its first step answers. -/
theorem run_succ_of_step {t : State} (hn : step s = .next t) :
    Sys2Proof.core.run (k + 1) s = Sys2Proof.core.run k t := by
  have hcore : Sys2Proof.core.step s = .next t := hn
  simp only [Host.Core.run, hcore]

/-! ### The steps of the run -/

/-- SUBMIT of a request that passes its check. -/
theorem run_submit {code : Word16} {p tmo : Word32} (hm : s.moves = .submit h code p none tmo :: ms)
    (hout : outstanding s h = false) (hck : checkRequest s.cfg code none = .noReject) :
    Sys2Proof.core.run (k + 1) s = Sys2Proof.core.run k { s with
      mailbox := mapErase s.mailbox h
      waiters := mapSet s.waiters h { code, param := p, data := none, timeoutMs := tmo, host := some h }
      moves := ms } := by
  refine run_succ_of_step ?_
  rw [step_of_listed hm]
  exact submitOp_of_passed (s := { s with moves := ms }) hout hck

/-- GRANT of a waiter on the free lock. -/
theorem run_grant {q : Request} (hm : s.moves = .grant h :: ms) (ho : s.owner = none)
    (hp : s.phase = .idle) (hw : mapGet s.waiters h = some q) (hhost : q.host = some h)
    (hreq : instrOf s.cfg q = .ok i) :
    Sys2Proof.core.run (k + 1) s = Sys2Proof.core.run k { s with
      waiters := mapErase s.waiters h
      owner := some h
      req := q
      expLen := predict s.cfg i.cmd i.param
      stage := 1
      doneFlag := false
      inbound := if s.cfg.rxDrainAtStart then [] else s.inbound
      phase := .send
      moves := ms
      seqSteps := s.seqSteps + 1 } := by
  refine run_succ_of_step ?_
  rw [step_of_listed hm]
  refine (grantMove_of_decoded (s := { s with moves := ms }) ho hp hw hreq).trans ?_
  rw [exec_of_idle i (s := State.latch { s with moves := ms } h q) hp]
  exact grantStep_of_free (s := State.latch { s with moves := ms } h q) ho hhost

/-- The device delivers bytes. -/
theorem run_device {b : Bytes} (hm : s.moves = .device b :: ms) :
    Sys2Proof.core.run (k + 1) s =
      Sys2Proof.core.run k { s with inbound := s.inbound ++ b, moves := ms } := by
  refine run_succ_of_step ?_
  rw [step_of_listed hm]
  rfl

section seq
variable (hm : s.moves = .seq :: ms) (hreq : instrOf s.cfg s.req = .ok i)
include hm hreq

/-- A sequencer step of a running transaction executes the decoded request. -/
theorem run_seq {t : State} (hp : s.phase ≠ .idle) (hn : exec i { s with moves := ms } = .next t) :
    Sys2Proof.core.run (k + 1) s = Sys2Proof.core.run k t := by
  refine run_succ_of_step ?_
  rw [step_of_listed hm]
  exact (seqMove_of_decoded (s := { s with moves := ms }) hp hreq).trans hn

theorem run_send (hp : s.phase = .send) (hst : s.stage = 1) (hport : s.port ≠ none)
    (ha : s.txAnswer = .ok) : Sys2Proof.core.run (k + 1) s = Sys2Proof.core.run k { s with
      rxbuf := []
      outbound := s.outbound ++ buildCmd s.cfg (s.cfg.codeOf i.cmd) i.param
      phase := .flush
      moves := ms
      seqSteps := s.seqSteps + 1 } := by
  refine run_seq hm hreq (by simp [hp]) ?_
  rw [exec_of_send i (s := { s with moves := ms }) hp]
  exact sendStep_of_ok (s := { s with moves := ms }) (stageFrame_of_stage_one hst)
    ((txWriteAnswer_of_open (s := { s with moves := ms }) hport).trans ha)

theorem run_flush (hp : s.phase = .flush) (ha : s.txAnswer = .ok) :
    Sys2Proof.core.run (k + 1) s = Sys2Proof.core.run k { s with
      tOrigin := s.now, nextPoll := s.now, phase := .poll, moves := ms, seqSteps := s.seqSteps + 1 } := by
  refine run_seq hm hreq (by simp [hp]) ?_
  rw [exec_of_flush i (s := { s with moves := ms }) hp]
  exact flushStep_of_ok (s := { s with moves := ms }) ha

theorem run_poll (hp : s.phase = .poll) (hfit : s.rxbuf.length + s.inbound.length ≤ s.cfg.rxBufMax) :
    Sys2Proof.core.run (k + 1) s = Sys2Proof.core.run k { s with
      rxbuf := s.rxbuf ++ s.inbound, inbound := [], phase := .check, moves := ms,
      seqSteps := s.seqSteps + 1 } := by
  refine run_seq hm hreq (by simp [hp]) ?_
  rw [exec_of_poll i (s := { s with moves := ms }) hp]
  exact pollStep_of_fits (s := { s with moves := ms }) hfit

theorem run_check {r : Resp} (hp : s.phase = .check) (ho : s.owner = some h) (hd : i.data = none)
    (hlen : s.expLen.toNat ≤ s.rxbuf.length) (hin : s.inbound = []) (hr : parse s.cfg s.rxbuf = some r) :
    Sys2Proof.core.run (k + 1) s =
      Sys2Proof.core.run k (afterFinish i.cmd h r false { s with moves := ms }) := by
  refine run_seq hm hreq (by simp [hp]) ?_
  rw [exec_of_check i (s := { s with moves := ms }) hp]
  exact checkStep_of_complete (s := { s with moves := ms }) ho hlen hin hr (by simp [hd])

end seq

/-! ### The two halves of the transaction -/

/-- From SEND of stage 1 with the channel open, accepting and empty, and a complete reply on its way. -/
theorem run_exchange {reply : Bytes} {r : Resp}
    (hm : s.moves = .seq :: .seq :: .device reply :: .seq :: .seq :: ms)
    (hreq : instrOf s.cfg s.req = .ok i) (hd : i.data = none) (hp : s.phase = .send) (hst : s.stage = 1)
    (ho : s.owner = some h) (hport : s.port ≠ none) (ha : s.txAnswer = .ok) (hin : s.inbound = [])
    (hlen : s.expLen.toNat ≤ reply.length) (hmax : reply.length ≤ s.cfg.rxBufMax)
    (hr : parse s.cfg reply = some r) :
    Sys2Proof.core.run 5 s = .next (afterFinish i.cmd h r false { s with
      rxbuf := reply
      outbound := s.outbound ++ buildCmd s.cfg (s.cfg.codeOf i.cmd) i.param
      tOrigin := s.now
      nextPoll := s.now
      inbound := []
      phase := .check
      moves := ms
      seqSteps := s.seqSteps + 1 + 1 + 1 }) := by
  have hrx : [] ++ (s.inbound ++ reply) = reply := by simp [hin]
  refine Eq.trans (run_send hm hreq hp hst hport ha) ?_
  refine Eq.trans (run_flush (by rfl) (by exact hreq) (by rfl) (by exact ha)) ?_
  refine Eq.trans (run_device (by rfl)) ?_
  refine Eq.trans (run_poll (by rfl) (by exact hreq) (by rfl) (by simpa [hin] using hmax)) ?_
  dsimp only
  rw [hrx]
  refine Eq.trans (run_check (by rfl) (by exact hreq) (by rfl) (by exact ho) hd (by exact hlen) (by rfl)
    (by exact hr)) ?_
  rfl

/-- The request of a command without attached data passes its check and stands for that command. -/
theorem decodeRequest_of_noData {cfg : Config} {c : Cmd} (hwf : cfg.wf = true) (hdp : dpOutLen c = none)
    (p : Word32) : checkRequest cfg (cfg.codeOf c) none = .noReject ∧
      decodeRequest cfg (cfg.codeOf c) p none = .ok (Instr.ofCmd c p []) := by
  have hcmd := cmdOfCode_codeOf hwf c
  have hck : checkRequest cfg (cfg.codeOf c) none = .noReject := by simp [checkRequest, hcmd, hdp]
  exact ⟨hck, by simp [decodeRequest, hck, hcmd]⟩

/-- SUBMIT and GRANT of a command without attached data by an idle host on the free lock. -/
theorem run_acquire {c : Cmd} {p tmo : Word32} (hi : Inv s) (ho : s.owner = none)
    (hw : mapGet s.waiters h = none) (hmail : mapGet s.mailbox h = none) (hdp : dpOutLen c = none)
    (hm : s.moves = .submit h (s.cfg.codeOf c) p none tmo :: .grant h :: ms) :
    Sys2Proof.core.run (k + 1 + 1) s = Sys2Proof.core.run k { s with
      mailbox := mapErase s.mailbox h
      waiters := mapErase (mapSet s.waiters h
        { code := s.cfg.codeOf c, param := p, data := none, timeoutMs := tmo, host := some h }) h
      owner := some h
      req := { code := s.cfg.codeOf c, param := p, data := none, timeoutMs := tmo, host := some h }
      expLen := predict s.cfg c p
      stage := 1
      doneFlag := false
      inbound := if s.cfg.rxDrainAtStart then [] else s.inbound
      phase := .send
      moves := ms
      seqSteps := s.seqSteps + 1 } := by
  obtain ⟨hck, hreq⟩ := decodeRequest_of_noData hi.config hdp p
  refine Eq.trans (run_submit hm (outstanding_eq_false_iff.mpr ⟨hw, by simp [ho], hmail⟩) hck) ?_
  refine Eq.trans (run_grant (i := Instr.ofCmd c p []) (by rfl) (by exact ho)
    (by exact hi.owner_eq_none_iff.mp ho) (mapGet_mapSet_self _ _ _) (by rfl) (by exact hreq)) ?_
  simp only [ofCmd_cmd, ofCmd_param]

end Sys2Proof.Machine

namespace Sys2Proof.Proofs
open Sys2Proof.Machine

/-- Settles O53: the lock is acquired, the exchange runs to its complete reply, and FINISH delivers it. -/
theorem oneStageTransactionDelivers : Obligations.OneStageTransactionDelivers := by
  unfold Obligations.OneStageTransactionDelivers
  intro s h c p tmo reply ms hi ho hw hmail hdp hport ha hin hlen hmax hm
  obtain ⟨r, hr⟩ := parse_eq_some hi.config ((predict_ge hi.config c p).trans hlen)
  obtain ⟨-, hreq⟩ := decodeRequest_of_noData hi.config hdp p
  have hrun := (run_acquire (k := 5) hi ho hw hmail hdp hm).trans
    (run_exchange (i := Instr.ofCmd c p []) (r := r) (reply := reply) (ms := ms) (by rfl) (by exact hreq)
      (by simp [ofCmd_data, hdp]) (by rfl) (by rfl) (by rfl) (by exact hport) (by exact ha)
      (by simp [hin]) (by exact hlen) (by exact hmax) (by exact hr))
  refine ⟨r, _, hr, hrun, ?_, ?_, rfl, rfl, rfl, rfl, rfl, fun g hg => ⟨?_, ?_⟩⟩
  · simp [afterFinish, resultOf]
  · simp [afterFinish]
  · simp [afterFinish, mapGet_mapSet_of_ne _ _ hg, mapGet_mapErase_of_ne _ hg]
  · simp [afterFinish, mapGet_mapErase_of_ne _ hg, mapGet_mapSet_of_ne _ _ hg]

end Sys2Proof.Proofs
end

section
/-!
SUPPORT. Progress of a running transaction: an enabled sequencer step moves on to another phase, and under the
eager schedule every step lowers one number or releases the lock (44_transaction_sequencer.md R125).
-/

namespace Sys2Proof.Machine

variable {s t : State} {h : HostId}

/-! ### An enabled step moves on -/

/-- SEND's step is enabled exactly when the write answers. -/
theorem txWriteAnswer_ne_pending (hen : (s.port.isNone || s.txAnswer != .pending) = true) :
    txWriteAnswer s ≠ .pending := by
  unfold txWriteAnswer
  cases hport : s.port with
  | none => simp
  | some b => simpa [hport] using hen

/-- An enabled step of a command changes the phase. -/
theorem runCommand_moves_on {c : Cmd} {p : Word32} {d : Option Bytes} (hen : seqEnabled s = true)
    (hn : runCommand c p d s = .next t) : t.phase ≠ s.phase := by
  cases hp : s.phase <;> simp only [seqEnabled, hp] at hen <;> simp only [runCommand, hp] at hn
  case idle => cases hen
  case send =>
    unfold sendStep at hn
    split at hn
    · cases hn
    · split at hn
      · rename_i ha
        exact absurd ha (txWriteAnswer_ne_pending hen)
      · cases hn; simp
      · cases hn; simp [finishSynth]
  case flush =>
    unfold flushStep at hn
    split at hn
    · rename_i ha
      simp [ha] at hen
    · cases hn; simp
    · cases hn; simp [finishSynth]
  case poll =>
    unfold pollStep at hn
    split at hn <;> cases hn <;> simp [finishSynth]
  case check =>
    unfold checkStep at hn
    split at hn
    · unfold stageEnd at hn
      split at hn
      · cases hn
      · split at hn <;> cases hn <;> simp
    · split at hn <;> cases hn <;> simp [finishSynth]
  case wait =>
    simp only [waitStep, if_pos (of_decide_eq_true hen)] at hn
    cases hn; simp

/-- An enabled move of the sequencer is a named step that changes the phase. -/
theorem seqMove_moves_on (hen : seqEnabled s = true) (hn : seqMove s = .next t) :
    t.phase ≠ s.phase ∧ ∃ i : Instr, SeqStep i.cmd i.param i.data s t := by
  have hp : s.phase ≠ .idle := fun hidle => by simp [seqEnabled, hidle] at hen
  rw [seqMove_of_running hp] at hn
  obtain ⟨i, -, hcmd⟩ := runReq_next hn
  exact ⟨runCommand_moves_on hen hcmd, i, runCommand_seqStep hcmd⟩

/-! ### The measure of the eager schedule -/

/-- The instant at which the running stage times out (R113). -/
def stageDeadline (s : State) : Nat := s.tOrigin + s.req.timeoutMs.toNat

/-- How far the read loop is from the time-out at time `now`, in time and in attempts. -/
def readDistance (s : State) (now : Nat) : Nat :=
  (stageDeadline s - now) + (stageDeadline s - s.nextPoll)

/-- What the eager schedule lowers. A CHECK that schedules the next attempt lowers `readDistance` (read in WAIT at
the time the attempt falls due) and its weight 20 pays for the POLL_MS of waiting; a stage is worth more than
the read loop of the next one. -/
def eagerMeasure (s : State) : Nat :=
  (if s.stage = 1 then 40 * s.req.timeoutMs.toNat + 10 else 0) +
    match s.phase with
    | .idle => 0
    | .send => 40 * s.req.timeoutMs.toNat + 5
    | .flush => 40 * s.req.timeoutMs.toNat + 4
    | .poll => 20 * readDistance s s.now + 2 + (s.nextPoll - s.now)
    | .check => 20 * readDistance s s.now + 1 + (s.nextPoll - s.now)
    | .wait => 20 * readDistance s (max s.now s.nextPoll) + 3 + (s.nextPoll - s.now)

/-- A step of the sequencer that changes the phase and keeps the lock lowers the measure. -/
theorem SeqStep.eagerMeasure_lt {c : Cmd} {p : Word32} {d : Option Bytes} (hstep : SeqStep c p d s t)
    (hwf : s.cfg.wf = true) (hmoves : t.phase ≠ s.phase) (hs : s.owner ≠ none) (ht : t.owner ≠ none) :
    eagerMeasure t < eagerMeasure s := by
  obtain ⟨-, -, -, -, -, -, -, -, -, -, -, -, -, hpoll, -⟩ := Config.wf_rows hwf
  cases hstep with
  | waits => exact absurd rfl hmoves
  | grants _ ho _ => exact absurd ho hs
  | sends hp _ => simp [eagerMeasure, hp]
  | flushes hp =>
    simp only [eagerMeasure, hp, readDistance, stageDeadline]
    omega
  | polls hp _ => simp [eagerMeasure, hp, readDistance, stageDeadline]
  | startsStageTwo hp hst _ =>
    have htwo : ¬(2 : Fin 3) = 1 := by decide
    simp only [eagerMeasure, hp, hst, if_pos, if_neg htwo]
    omega
  | schedules hp hearly =>
    simp only [eagerMeasure, hp, readDistance, stageDeadline, hpoll]
    omega
  | resumes hp hdue =>
    simp only [eagerMeasure, hp, readDistance, stageDeadline, Nat.max_eq_left hdue]
    omega
  | sendFails | flushFails | overflows | completes | timesOut => exact absurd (by simp) ht

/-- A millisecond of waiting lowers the measure. -/
theorem eagerMeasure_tick (hp : s.phase = .wait) (hearly : s.now < s.nextPoll) :
    eagerMeasure (tickOp s) < eagerMeasure s := by
  refine Nat.add_lt_add_left ?_ _
  simp only [tickOp, hp, readDistance, stageDeadline]
  omega

/-! ### The eager schedule -/

/-- A step of the eager schedule keeps the lock and lowers the measure, or it releases the lock with the
holder's mailbox filled. -/
theorem eagerMove_progress (hi : Inv s) (ho : s.owner = some h) (ha : s.txAnswer ≠ .pending) :
    ∃ t, perform (eagerMove s) s = .next t ∧
      ((t.owner = some h ∧ t.txAnswer ≠ .pending ∧ eagerMeasure t < eagerMeasure s) ∨
        (t.owner = none ∧ t.phase = .idle ∧ mapGet t.mailbox h ≠ none)) := by
  unfold eagerMove
  split
  · rename_i hen
    obtain ⟨t, hn⟩ := hi.seq_answers
    obtain ⟨hmoves, i, hstep⟩ := seqMove_moves_on hen hn
    obtain ⟨-, -, -, -, -, -, htx, -⟩ := hstep.frame
    refine ⟨t, hn, ?_⟩
    by_cases hkeep : t.owner = s.owner
    · have hheld : s.owner ≠ none := by simp [ho]
      exact .inl ⟨hkeep.trans ho, htx ▸ ha,
        hstep.eagerMeasure_lt hi.config hmoves hheld (hkeep ▸ hheld)⟩
    · obtain ⟨hfree, o, hso, hmail, -, hidle, -⟩ := seqMove_releasesLock hi hn hkeep
      obtain rfl : h = o := Option.some.inj (ho.symm.trans hso)
      exact .inr ⟨hfree, hidle, by simp [hmail]⟩
  · rename_i hdis
    have hwait : s.phase = .wait ∧ s.now < s.nextPoll := by
      have hrun := (hi.running_of_owner ho).phase
      cases hp : s.phase <;> simp_all [seqEnabled]
    exact ⟨tickOp s, rfl, .inl ⟨ho, ha, eagerMeasure_tick hwait.1 hwait.2⟩⟩

/-- A run of the eager schedule goes on from the state its first step answers. -/
theorem eagerRun_succ {n : Nat} (hn : perform (eagerMove s) s = .next t) :
    eagerRun (n + 1) s = eagerRun n t := by
  simp only [eagerRun, hn]

/-- The eager schedule reaches the release of the lock: by induction on the measure. -/
theorem eagerRun_releases (n : Nat) : ∀ s : State, eagerMeasure s ≤ n → Inv s → s.owner = some h →
    s.txAnswer ≠ .pending →
    ∃ k t, eagerRun k s = .next t ∧ t.owner = none ∧ t.phase = .idle ∧ mapGet t.mailbox h ≠ none := by
  induction n with
  | zero =>
    intro s hle hi ho ha
    obtain ⟨t, hn, ⟨-, -, hlt⟩ | hdone⟩ := eagerMove_progress hi ho ha
    · omega
    · exact ⟨1, t, eagerRun_succ hn, hdone⟩
  | succ n ih =>
    intro s hle hi ho ha
    obtain ⟨t, hn, ⟨hto, hta, hlt⟩ | hdone⟩ := eagerMove_progress hi ho ha
    · obtain ⟨k, u, hk, hu⟩ := ih t (by omega) (hi.perform hn) hto hta
      exact ⟨k + 1, u, (eagerRun_succ hn).trans hk, hu⟩
    · exact ⟨1, t, eagerRun_succ hn, hdone⟩

end Sys2Proof.Machine

namespace Sys2Proof.Proofs
open Sys2Proof.Machine

/-- Settles O54: every step of the eager schedule lowers the measure until one releases the lock. -/
theorem eagerScheduleReachesFinish : Obligations.EagerScheduleReachesFinish := by
  unfold Obligations.EagerScheduleReachesFinish
  exact fun s h hi ho ha => eagerRun_releases (eagerMeasure s) s le_rfl hi ho ha

end Sys2Proof.Proofs
end

section
/-!
SUPPORT. Fair runs (44_transaction_sequencer.md R125, 20_memory.md R47): time grows without bound, an enabled
sequencer leaves its phase, and so a transaction that holds the lock for ever is stuck in one write or flush.
-/

namespace Sys2Proof.Machine

/-! ### One step of a run -/

/-- Move `m` leads from `s` to `t`, from whatever list of moves it came: a step of `IsRun`. -/
def RunStep (m : Move) (s t : State) : Prop :=
  ∃ ms k, perform m { s with moves := ms, freeMoves := k } = .next t

/-- A step of the run while one host keeps the lock: the transaction stands still, or the sequencer goes on to
the next phase. -/
inductive HeldStep (s t : State) : Prop
  | stands (hp : t.phase = s.phase) (hst : t.stage = s.stage) (ho : t.tOrigin = s.tOrigin)
      (hn : t.nextPoll = s.nextPoll) (hr : t.req = s.req)
  | sends (hs : s.phase = .send) (ht : t.phase = .flush) (hst : t.stage = s.stage)
  | flushes (hs : s.phase = .flush) (ht : t.phase = .poll) (hst : t.stage = s.stage)
  | polls (hs : s.phase = .poll) (ht : t.phase = .check) (hst : t.stage = s.stage)
      (ho : t.tOrigin = s.tOrigin) (hr : t.req = s.req)
  | schedules (hs : s.phase = .check) (ht : t.phase = .wait) (hst : t.stage = s.stage)
      (ho : t.tOrigin = s.tOrigin) (hr : t.req = s.req) (hearly : s.now < stageDeadline s)
  | resumes (hs : s.phase = .wait) (ht : t.phase = .poll) (hst : t.stage = s.stage)
      (ho : t.tOrigin = s.tOrigin) (hr : t.req = s.req)
  | startsStageTwo (hs : s.phase = .check) (ht : t.phase = .send) (hone : s.stage = 1) (htwo : t.stage = 2)

section step
variable {m : Move} {s t : State} {h : HostId}

theorem RunStep.inv (hstep : RunStep m s t) (hi : Inv s) : Inv t := by
  obtain ⟨ms, k, hn⟩ := hstep
  exact (hi.setMoves ms k).perform hn

/-- Time does not run back. -/
theorem RunStep.now_le (hstep : RunStep m s t) (hi : Inv s) : s.now ≤ t.now := by
  obtain ⟨ms, k, hn⟩ := hstep
  obtain hst | ⟨h, -, ho, rfl, -⟩ | ⟨h, -, hgrant⟩ | ⟨-, -, i, -, -, hseq⟩ :=
    perform_cases (hi.setMoves ms k) hn
  · exact hst.now
  · have hrun := (hi.running_of_owner ho).phase
    simp [cancelOp_of_running (s := { s with moves := ms, freeMoves := k }) ho hrun]
  · obtain rfl | ⟨-, r, c, -, -, rfl⟩ := (hi.setMoves ms k).grant_next hgrant <;> exact le_rfl
  · obtain ⟨-, -, -, -, hnow, -⟩ := hseq.frame
    exact hnow.ge

theorem RunStep.now_tick (hstep : RunStep .tick s t) : t.now = s.now + 1 := by
  obtain ⟨ms, k, hn⟩ := hstep
  cases hn
  rfl

/-- What changes the lock's holder (R14). -/
theorem RunStep.owner_cases (hstep : RunStep m s t) (hi : Inv s) (hne : t.owner ≠ s.owner) :
    (s.owner = none ∧ ∃ h, m = .grant h ∧ t.owner = some h) ∨
    (t.owner = none ∧ ∃ h, s.owner = some h ∧ (m = .seq ∨ m = .cancel h) ∧
      mapGet t.mailbox h = some t.result) := by
  obtain ⟨ms, k, hn⟩ := hstep
  obtain ⟨hfree, g, hm, hg, -, -⟩ | ⟨hfree, g, hg, hm, hmail, -⟩ :=
    Proofs.lockDiscipline m _ t (hi.setMoves ms k) hn hne
  · exact .inl ⟨hfree, g, hm, hg⟩
  · exact .inr ⟨hfree, g, hg, hm, hmail⟩

/-- A step while one host keeps the lock. -/
theorem RunStep.held (hstep : RunStep m s t) (hi : Inv s) (hs : s.owner = some h) (ht : t.owner = some h) :
    HeldStep s t := by
  obtain ⟨ms, k, hn⟩ := hstep
  obtain hst | ⟨g, -, hg, rfl, -⟩ | ⟨g, -, hgrant⟩ | ⟨-, -, i, -, -, hseq⟩ :=
    perform_cases (hi.setMoves ms k) hn
  · exact .stands hst.phase hst.stage hst.tOrigin hst.nextPoll hst.req
  · have hrun := (hi.running_of_owner hg).phase
    rw [cancelOp_of_running (s := { s with moves := ms, freeMoves := k }) hg hrun] at ht
    cases ht
  · obtain rfl | ⟨hfree, -⟩ := (hi.setMoves ms k).grant_next hgrant
    · exact .stands rfl rfl rfl rfl rfl
    · cases hfree.symm.trans hs
  · cases hseq with
    | waits => exact .stands rfl rfl rfl rfl rfl
    | grants _ hfree _ => cases hfree.symm.trans hs
    | sends hp _ => exact .sends hp rfl rfl
    | flushes hp => exact .flushes hp rfl rfl
    | polls hp _ => exact .polls hp rfl rfl rfl rfl
    | schedules hp hearly => exact .schedules hp rfl rfl rfl rfl hearly
    | resumes hp _ => exact .resumes hp rfl rfl rfl rfl
    | startsStageTwo hp hone _ => exact .startsStageTwo hp rfl hone rfl
    | sendFails | flushFails | overflows | completes | timesOut =>
      rw [finish_owner] at ht
      cases ht

/-- An enabled step of the sequencer leaves its phase. -/
theorem RunStep.leaves (hstep : RunStep .seq s t) (hen : seqEnabled s = true) : t.phase ≠ s.phase := by
  obtain ⟨ms, k, hn⟩ := hstep
  exact (seqMove_moves_on (s := { s with moves := ms, freeMoves := k }) hen hn).1

end step

/-! ### Waiters -/

section waiters
variable {m : Move} {s t : State} {h g : HostId}

theorem submitOp_keepsWaiter {code : Word16} {param : Word32} {data : Option Bytes} {timeoutMs : Word32}
    (hn : submitOp g code param data timeoutMs s = .next t) (hw : mapGet s.waiters h ≠ none) :
    mapGet t.waiters h ≠ none := by
  obtain ⟨-, ⟨-, rfl⟩ | ⟨-, rfl⟩⟩ := submitOp_next hn
  · simp only [mapGet_mapSet]
    split
    · simp
    · exact hw
  · exact hw

theorem takeOp_waiters : (takeOp h s).waiters = s.waiters := by
  unfold takeOp
  split <;> rfl

theorem portOpenOp_waiters (b : Word32) : (portOpenOp b s).waiters = s.waiters := by
  unfold portOpenOp
  split <;> rfl

theorem clientOp_keepsWaiter (hn : clientOp g s = .next t) (hw : mapGet s.waiters h ≠ none) :
    mapGet t.waiters h ≠ none := by
  unfold clientOp at hn
  split at hn
  · cases hn; exact hw -- no task
  · cases hn; exact hw -- a finished task
  · exact submitOp_keepsWaiter hn hw -- SUBMIT
  · split at hn <;> cases hn -- TAKE
    · rw [State.setTask_waiters, takeOp_waiters]; exact hw
    · exact hw
  · split at hn <;> cases hn <;> exact hw -- a delay
  · split at hn <;> cases hn -- PORT_OPEN
    · rw [State.setTask_waiters, portOpenOp_waiters]; exact hw
    · exact hw
  · cases hn; exact hw -- PORT_CLOSE

/-- A waiter stops waiting when it is granted the lock or cancels. -/
theorem perform_waiter_leaves (hi : Inv s) (hn : perform m s = .next t) (hw : mapGet s.waiters h ≠ none)
    (hgone : mapGet t.waiters h = none) : (m = .grant h ∧ t.owner = some h) ∨ m = .cancel h := by
  have kept {w : List (HostId × Request)} (heq : t.waiters = w) (hkeep : mapGet w h ≠ none) :
      (m = .grant h ∧ t.owner = some h) ∨ m = .cancel h := absurd (heq ▸ hgone) hkeep
  have erased {g : HostId} (heq : t.waiters = mapErase s.waiters g) : h = g := by
    by_contra hne
    rw [heq, mapGet_mapErase_of_ne _ hne] at hgone
    exact hw hgone
  cases m with
  | grant g =>
    obtain rfl | ⟨-, r, c, -, -, rfl⟩ := hi.grant_next hn
    · exact absurd hgone hw
    · obtain rfl := erased (g := g) rfl
      exact .inl ⟨rfl, rfl⟩
  | cancel g =>
    cases hn
    by_cases hrun : s.owner = some g ∧ s.phase ≠ .idle
    · rw [cancelOp_of_running hrun.1 hrun.2] at hgone
      exact absurd hgone hw
    by_cases hwait : mapGet s.waiters g = none
    · simp only [cancelOp, if_neg hrun, hwait] at hgone
      exact absurd hgone hw
    · obtain ⟨q, hq⟩ := Option.ne_none_iff_exists'.mp hwait
      have howner := (hi.waiting_of_waiter hq).owner
      obtain rfl := erased (g := g) (by rw [cancelOp_of_waiting howner hwait]; rfl)
      exact .inr rfl
  | seq =>
    obtain rfl | ⟨-, i, -, -, hseq⟩ := seqMove_next hn
    · exact absurd hgone hw
    · exact kept hseq.frame.2.1 hw
  | submit g code param data timeoutMs => exact absurd hgone (submitOp_keepsWaiter hn hw)
  | client g => exact absurd hgone (clientOp_keepsWaiter hn hw)
  | take g => cases hn; exact kept takeOp_waiters hw
  | readValue g cls => obtain rfl | ⟨v, rfl⟩ := readValueOp_next hn <;> exact absurd hgone hw
  | start g op =>
    cases hn
    unfold startOp at hgone
    split at hgone <;> exact absurd hgone hw
  | portOpen g b => cases hn; exact kept (portOpenOp_waiters b) hw
  | reset => exact kept (by rw [((State.resetOp_eq_next_iff s t).mp hn).2]) hw
  | readReg | portClose | channel | device | tick => cases hn; exact absurd hgone hw

end waiters

/-! ### Along a run -/

/-- A property that holds at `a` and no longer at `b` is lost in a step between, and holds up to it. -/
theorem exists_last_before {P : Nat → Prop} {a b : Nat} (hab : a ≤ b) (ha : P a) (hb : ¬P b) :
    ∃ k, a ≤ k ∧ P k ∧ ¬P (k + 1) := by
  induction b, hab using Nat.le_induction with
  | base => exact absurd ha hb
  | succ b hab ih =>
    by_cases hPb : P b
    · exact ⟨b, hab, hPb, hb⟩
    · exact ih hPb

section run
variable {m : Nat → Move} {r : Nat → State} (hrun : IsRun m r) (hinv : Inv (r 0))
include hrun

theorem runStep (n : Nat) : RunStep (m n) (r n) (r (n + 1)) := hrun n

include hinv

/-- The invariant holds along a run. -/
theorem run_inv (n : Nat) : Inv (r n) := by
  induction n with
  | zero => exact hinv
  | succ n ih => exact (runStep hrun n).inv ih

theorem run_now_mono {j k : Nat} (hjk : j ≤ k) : (r j).now ≤ (r k).now := by
  induction k, hjk using Nat.le_induction with
  | base => exact le_rfl
  | succ k _ ih => exact ih.trans ((runStep hrun k).now_le (run_inv hrun hinv k))

variable (hfair : WeaklyFair m r)
include hfair

/-- Time reaches every instant, and stays at or after it. -/
theorem run_now_unbounded (d : Nat) : ∃ j, ∀ k, j ≤ k → d ≤ (r k).now := by
  induction d with
  | zero => exact ⟨0, fun _ _ => Nat.zero_le _⟩
  | succ d ih =>
    obtain ⟨j, hj⟩ := ih
    obtain ⟨k, hjk, htick⟩ := hfair.timeBase j
    have hstep := runStep hrun k
    rw [htick] at hstep
    refine ⟨k + 1, fun i hi => ?_⟩
    have hlater := run_now_mono hrun hinv hi
    have hd := hj k hjk
    rw [hstep.now_tick] at hlater
    omega

/-! ### A transaction that keeps the lock for ever -/

section held
variable {n : Nat} {h : HostId} (hheld : ∀ k, n ≤ k → (r k).owner = some h)
include hheld

omit hfair in
/-- While `h` keeps the lock every step is one of its transaction, or leaves that alone. -/
theorem run_heldStep {k : Nat} (hk : n ≤ k) : HeldStep (r k) (r (k + 1)) :=
  (runStep hrun k).held (run_inv hrun hinv k) (hheld k hk) (hheld (k + 1) (by omega))

omit hinv in
/-- A phase in which the sequencer is enabled from some point on is left. -/
theorem run_leaves_phase {k : Nat} {ph : Phase} (hk : n ≤ k) (hph : (r k).phase = ph)
    (hen : (∀ j, k ≤ j → (r j).phase = ph) → ∃ i, ∀ j, i ≤ j → seqEnabled (r j) = true) :
    ∃ j, k ≤ j ∧ (r j).phase = ph ∧ (r (j + 1)).phase ≠ ph := by
  by_cases hstay : ∀ j, k ≤ j → (r j).phase = ph
  · obtain ⟨i, hi⟩ := hen hstay
    obtain ⟨j, hj, hseq⟩ := hfair.sequencer (max i k) fun j hj => by
      simp [sequencerEnabled, hi j ((le_max_left i k).trans hj)]
    have hij : i ≤ j := (le_max_left i k).trans hj
    have hkj : k ≤ j := (le_max_right i k).trans hj
    have hmove : m j = .seq := by
      have hbusy : grantEnabled (r j) = false := by simp [grantEnabled, hheld j (hk.trans hkj)]
      unfold sequencerStep at hseq
      split at hseq
      · assumption
      · simp [hbusy] at hseq
      · cases hseq
    have hstep := runStep hrun j
    rw [hmove] at hstep
    exact ⟨j, hkj, hstay j hkj, hstay j hkj ▸ hstep.leaves (hi j hij)⟩
  · obtain ⟨b, hb⟩ := not_forall.mp hstay
    obtain ⟨hkb, hne⟩ := Classical.not_imp.mp hb
    exact exists_last_before (P := fun j => (r j).phase = ph) hkb hph hne

/-- What stays the same while a stage reads. -/
def Reading (s : State) (st : Fin 3) (o : Nat) (q : Request) : Prop :=
  (s.phase = .poll ∨ s.phase = .check ∨ s.phase = .wait) ∧ s.stage = st ∧ s.tOrigin = o ∧ s.req = q

omit hrun hinv hfair hheld in
/-- The read loop is left only by the start of stage 2. -/
theorem HeldStep.reading {s t : State} {st : Fin 3} {o : Nat} {q : Request} (hstep : HeldStep s t)
    (hread : Reading s st o q) :
    Reading t st o q ∨ (st = 1 ∧ t.phase = .send ∧ t.stage = 2) := by
  obtain ⟨hph, hst, ho, hq⟩ := hread
  cases hstep with
  | stands hp hst' ho' _ hq' =>
    exact .inl ⟨hp ▸ hph, hst'.trans hst, ho'.trans ho, hq'.trans hq⟩
  | sends hs => simp [hs] at hph
  | flushes hs => simp [hs] at hph
  | polls _ ht hst' ho' hq' =>
    exact .inl ⟨.inr (.inl ht), hst'.trans hst, ho'.trans ho, hq'.trans hq⟩
  | schedules _ ht hst' ho' hq' _ =>
    exact .inl ⟨.inr (.inr ht), hst'.trans hst, ho'.trans ho, hq'.trans hq⟩
  | resumes _ ht hst' ho' hq' => exact .inl ⟨.inl ht, hst'.trans hst, ho'.trans ho, hq'.trans hq⟩
  | startsStageTwo _ ht hone htwo => exact .inr ⟨hst.symm.trans hone, ht, htwo⟩

/-- The step by which the run leaves a phase in which the sequencer is enabled from some point on. -/
theorem run_leaving_step {k : Nat} {ph : Phase} (hk : n ≤ k) (hph : (r k).phase = ph)
    (hen : (∀ j, k ≤ j → (r j).phase = ph) → ∃ i, ∀ j, i ≤ j → seqEnabled (r j) = true) :
    ∃ j, k ≤ j ∧ (r j).phase = ph ∧ (r (j + 1)).phase ≠ ph ∧ HeldStep (r j) (r (j + 1)) := by
  obtain ⟨j, hkj, hj, hj'⟩ := run_leaves_phase hrun hfair hheld hk hph hen
  exact ⟨j, hkj, hj, hj', run_heldStep hrun hinv hheld (hk.trans hkj)⟩

/-- POLL goes on to CHECK. -/
theorem run_poll_checks {k : Nat} (hk : n ≤ k) (hph : (r k).phase = .poll) :
    ∃ j, k ≤ j ∧ (r j).phase = .check := by
  obtain ⟨j, hkj, hj, hj', hstep⟩ := run_leaving_step hrun hinv hfair hheld hk hph fun hstay =>
    ⟨k, fun j hj => by simp [seqEnabled, hstay j hj]⟩
  cases hstep with
  | stands hp => exact absurd (hp.trans hj) hj'
  | polls _ ht => exact ⟨j + 1, by omega, ht⟩
  | sends hs | flushes hs | schedules hs | resumes hs | startsStageTwo hs => simp [hj] at hs

omit hfair in
/-- WAIT leaves the next attempt's time alone. -/
theorem run_nextPoll_of_wait {k : Nat} (hk : n ≤ k) (hstay : ∀ j, k ≤ j → (r j).phase = .wait) {j : Nat}
    (hj : k ≤ j) : (r j).nextPoll = (r k).nextPoll := by
  induction j, hj using Nat.le_induction with
  | base => rfl
  | succ j hkj ih =>
    have hnext := hstay (j + 1) (by omega)
    cases run_heldStep hrun hinv hheld (hk.trans hkj) with
    | stands _ _ _ hn _ => exact hn.trans ih
    | sends _ ht | flushes _ ht | polls _ ht | resumes _ ht | startsStageTwo _ ht => simp [hnext] at ht
    | schedules hs => simp [hstay j hkj] at hs

/-- WAIT goes on to POLL when the next attempt is due. -/
theorem run_wait_polls {k : Nat} (hk : n ≤ k) (hph : (r k).phase = .wait) :
    ∃ j, k ≤ j ∧ (r j).phase = .poll := by
  obtain ⟨j, hkj, hj, hj', hstep⟩ := run_leaving_step hrun hinv hfair hheld hk hph fun hstay => by
    obtain ⟨i, hi⟩ := run_now_unbounded hrun hinv hfair (r k).nextPoll
    refine ⟨max i k, fun j hj => ?_⟩
    have hkj : k ≤ j := (le_max_right i k).trans hj
    have hdue := hi j ((le_max_left i k).trans hj)
    simp [seqEnabled, hstay j hkj, run_nextPoll_of_wait hrun hinv hheld hk hstay hkj, hdue]
  cases hstep with
  | stands hp => exact absurd (hp.trans hj) hj'
  | resumes _ ht => exact ⟨j + 1, by omega, ht⟩
  | sends hs | flushes hs | polls hs | schedules hs | startsStageTwo hs => simp [hj] at hs

/-- From the time-out's instant on CHECK can only start stage 2. -/
theorem run_late_check_sends {k : Nat} (hk : n ≤ k) (hph : (r k).phase = .check)
    (hlate : ∀ j, k ≤ j → stageDeadline (r j) ≤ (r j).now) : ∃ j, k ≤ j ∧ (r j).phase = .send := by
  obtain ⟨j, hkj, hj, hj', hstep⟩ := run_leaving_step hrun hinv hfair hheld hk hph fun hstay =>
    ⟨k, fun j hj => by simp [seqEnabled, hstay j hj]⟩
  cases hstep with
  | stands hp => exact absurd (hp.trans hj) hj'
  | schedules _ _ _ _ _ hearly => exact absurd hearly (hlate j hkj).not_gt
  | startsStageTwo _ ht => exact ⟨j + 1, by omega, ht⟩
  | sends hs | flushes hs | polls hs | resumes hs => simp [hj] at hs

/-- A phase of the read loop comes to CHECK. -/
theorem run_reading_checks {k : Nat} (hk : n ≤ k)
    (hph : (r k).phase = .poll ∨ (r k).phase = .check ∨ (r k).phase = .wait) :
    ∃ j, k ≤ j ∧ (r j).phase = .check := by
  obtain hp | hp | hp := hph
  · exact run_poll_checks hrun hinv hfair hheld hk hp
  · exact ⟨k, le_rfl, hp⟩
  · obtain ⟨i, hki, hi⟩ := run_wait_polls hrun hinv hfair hheld hk hp
    obtain ⟨j, hij, hj⟩ := run_poll_checks hrun hinv hfair hheld (hk.trans hki) hi
    exact ⟨j, hki.trans hij, hj⟩

/-- The read loop does not go on for ever: at the time-out's instant CHECK ends the stage. -/
theorem run_not_reading_forever {k : Nat} {st : Fin 3} {o : Nat} {q : Request} (hk : n ≤ k) :
    ¬∀ j, k ≤ j → Reading (r j) st o q := by
  intro hread
  obtain ⟨i, hlate⟩ := run_now_unbounded hrun hinv hfair (o + q.timeoutMs.toNat)
  have hki : k ≤ max i k := le_max_right i k
  obtain ⟨c, hc, hcheck⟩ := run_reading_checks hrun hinv hfair hheld (hk.trans hki) (hread _ hki).1
  obtain ⟨j, hcj, hsend⟩ := run_late_check_sends hrun hinv hfair hheld (hk.trans (hki.trans hc)) hcheck
    fun j hj => by
      obtain ⟨-, -, ho, hq⟩ := hread j (hki.trans (hc.trans hj))
      rw [stageDeadline, ho, hq]
      exact hlate j ((le_max_left i k).trans (hc.trans hj))
  obtain ⟨hph, -⟩ := hread j (hki.trans (hc.trans hcj))
  simp [hsend] at hph

/-- A stage that reads goes on to stage 2, and was stage 1. -/
theorem run_reading_ends {k : Nat} (hk : n ≤ k)
    (hph : (r k).phase = .poll ∨ (r k).phase = .check ∨ (r k).phase = .wait) :
    (r k).stage = 1 ∧ ∃ j, k ≤ j ∧ (r j).phase = .send ∧ (r j).stage = 2 := by
  have hforever := run_not_reading_forever hrun hinv hfair hheld (k := k) (st := (r k).stage)
    (o := (r k).tOrigin) (q := (r k).req) hk
  obtain ⟨b, hb⟩ := not_forall.mp hforever
  obtain ⟨hkb, hnot⟩ := Classical.not_imp.mp hb
  obtain ⟨j, hkj, hj, hj'⟩ := exists_last_before
    (P := fun j => Reading (r j) (r k).stage (r k).tOrigin (r k).req) hkb ⟨hph, rfl, rfl, rfl⟩ hnot
  obtain hstill | ⟨hone, hsend, htwo⟩ :=
    (run_heldStep hrun hinv hheld (hk.trans hkj)).reading hj
  · exact absurd hstill hj'
  · exact ⟨hone, j + 1, by omega, hsend, htwo⟩

omit hfair in
/-- If a write or flush does not take for ever, the run leaves its phase, in the same stage. -/
theorem run_leaves_write {k : Nat} {ph : Phase} (hk : n ≤ k) (hw : ph = .send ∨ ph = .flush)
    (hp : (r k).phase = ph) (hgoes : ¬∀ j, k ≤ j → (r j).phase = ph) :
    ∃ j, k ≤ j ∧ (r j).phase = ph ∧ (r (j + 1)).phase ≠ ph ∧ (r (j + 1)).stage = (r k).stage ∧
      HeldStep (r j) (r (j + 1)) := by
  obtain ⟨b, hb⟩ := not_forall.mp hgoes
  obtain ⟨hkb, hne⟩ := Classical.not_imp.mp hb
  obtain ⟨j, hkj, ⟨hpj, hst⟩, hj'⟩ := exists_last_before
    (P := fun j => (r j).phase = ph ∧ (r j).stage = (r k).stage) hkb ⟨hp, rfl⟩ fun h => hne h.1
  have hstep := run_heldStep hrun hinv hheld (hk.trans hkj)
  have hstage : (r (j + 1)).stage = (r k).stage := by
    rw [← hst]
    cases hstep with
    | stands _ h | sends _ _ h | flushes _ _ h | polls _ _ h | schedules _ _ h | resumes _ _ h => exact h
    | startsStageTwo hs => rw [hpj] at hs; simp [hs] at hw
  exact ⟨j, hkj, hpj, fun h => hj' ⟨h, hstage⟩, hstage, hstep⟩

section writes
variable (hmoves : ∀ j ph, ph = .send ∨ ph = .flush → ¬∀ k, j ≤ k → (r k).phase = ph)
include hmoves

omit hfair in
/-- A flush that does not take for ever is followed by POLL. -/
theorem run_flush_reads {k : Nat} (hk : n ≤ k) (hp : (r k).phase = .flush) :
    ∃ j, k ≤ j ∧ (r j).phase = .poll ∧ (r j).stage = (r k).stage := by
  obtain ⟨j, hkj, hpj, hne, hst, hstep⟩ :=
    run_leaves_write hrun hinv hheld hk (.inr rfl) hp (hmoves k _ (.inr rfl))
  cases hstep with
  | stands hp => exact absurd (hp.trans hpj) hne
  | flushes _ ht => exact ⟨j + 1, by omega, ht, hst⟩
  | sends hs | polls hs | schedules hs | resumes hs | startsStageTwo hs => simp [hpj] at hs

omit hfair in
/-- A write that does not take for ever is followed by FLUSH, and so by POLL. -/
theorem run_send_reads {k : Nat} (hk : n ≤ k) (hp : (r k).phase = .send) :
    ∃ j, k ≤ j ∧ (r j).phase = .poll ∧ (r j).stage = (r k).stage := by
  obtain ⟨j, hkj, hpj, hne, hst, hstep⟩ :=
    run_leaves_write hrun hinv hheld hk (.inl rfl) hp (hmoves k _ (.inl rfl))
  cases hstep with
  | stands hp => exact absurd (hp.trans hpj) hne
  | sends _ ht =>
    obtain ⟨i, hji, hi, hst'⟩ := run_flush_reads hrun hinv hheld hmoves (k := j + 1) (by omega) ht
    exact ⟨i, by omega, hi, hst'.trans hst⟩
  | flushes hs | polls hs | schedules hs | resumes hs | startsStageTwo hs => simp [hpj] at hs

omit hfair in
/-- If no write and no flush takes for ever, the transaction comes to read, in the same stage. -/
theorem run_comes_to_read {k : Nat} (hk : n ≤ k) : ∃ j, k ≤ j ∧ (r j).stage = (r k).stage ∧
    ((r j).phase = .poll ∨ (r j).phase = .check ∨ (r j).phase = .wait) := by
  have hbusy := ((run_inv hrun hinv k).running_of_owner (hheld k hk)).phase
  cases hp : (r k).phase with
  | idle => exact absurd hp hbusy
  | send =>
    obtain ⟨j, hkj, hpoll, hst⟩ := run_send_reads hrun hinv hheld hmoves hk hp
    exact ⟨j, hkj, hst, .inl hpoll⟩
  | flush =>
    obtain ⟨j, hkj, hpoll, hst⟩ := run_flush_reads hrun hinv hheld hmoves hk hp
    exact ⟨j, hkj, hst, .inl hpoll⟩
  | poll => exact ⟨k, le_rfl, rfl, .inl hp⟩
  | check => exact ⟨k, le_rfl, rfl, .inr (.inl hp)⟩
  | wait => exact ⟨k, le_rfl, rfl, .inr (.inr hp)⟩

end writes

/-- A transaction that keeps the lock for ever hangs: otherwise it comes to read in stage 2, which ends it. -/
theorem run_hangs : Hangs r n h := by
  refine ⟨hheld, ?_⟩
  by_contra hno
  have hmoves : ∀ j ph, ph = Phase.send ∨ ph = .flush → ¬∀ k, j ≤ k → (r k).phase = ph :=
    fun j ph hph hstay => hno ⟨j, ph, hph, hstay⟩
  have reads {k : Nat} (hk : n ≤ k) := run_comes_to_read hrun hinv hheld hmoves hk
  obtain ⟨j, hnj, -, hread⟩ := reads le_rfl
  obtain ⟨-, i, hji, -, htwo⟩ := run_reading_ends hrun hinv hfair hheld hnj hread
  obtain ⟨b, hib, hst, hread'⟩ := reads (k := i) (hnj.trans hji)
  obtain ⟨hone, -⟩ := run_reading_ends hrun hinv hfair hheld (hnj.trans (hji.trans hib)) hread'
  rw [hst, htwo] at hone
  exact absurd hone (by decide)

end held

/-! ### Release and grant -/

/-- A transaction that does not hang releases the lock with its result delivered. -/
theorem run_releases {n : Nat} {h : HostId} (ho : (r n).owner = some h) (hgoes : ¬Hangs r n h) :
    ∃ k, n ≤ k ∧ (r k).owner = some h ∧ (r (k + 1)).owner = none ∧
      mapGet (r (k + 1)).mailbox h = some (r (k + 1)).result ∧ (m k = .seq ∨ m k = .cancel h) := by
  have hlost : ¬∀ k, n ≤ k → (r k).owner = some h := fun hheld =>
    hgoes (run_hangs hrun hinv hfair hheld)
  obtain ⟨b, hb⟩ := not_forall.mp hlost
  obtain ⟨hnb, hne⟩ := Classical.not_imp.mp hb
  obtain ⟨k, hnk, hk, hk'⟩ := exists_last_before (P := fun k => (r k).owner = some h) hnb ho hne
  obtain ⟨hfree, -⟩ | ⟨hfree, g, hg, hm, hmail⟩ :=
    (runStep hrun k).owner_cases (run_inv hrun hinv k) fun heq => hk' (heq.trans hk)
  · cases hfree.symm.trans hk
  · obtain rfl : h = g := Option.some.inj (hk.symm.trans hg)
    exact ⟨k, hnk, hk, hfree, hmail, hm⟩

/-- While a host waits and the lock is free, the sequencer grants the lock to someone. -/
theorem run_grants_of_free {n : Nat} {h : HostId} (hwaits : ∀ k, n ≤ k → mapGet (r k).waiters h ≠ none)
    (ho : (r n).owner = none) :
    ∃ k g, n ≤ k ∧ m k = .grant g ∧ (r k).owner = none ∧ (r (k + 1)).owner = some g := by
  have hlost : ¬∀ k, n ≤ k → (r k).owner = none := by
    intro hfree
    have hready (k : Nat) (hk : n ≤ k) : grantEnabled (r k) = true := by
      have hidle := (run_inv hrun hinv k).owner_eq_none_iff.mp (hfree k hk)
      have hsome : (r k).waiters ≠ [] := fun hnil => hwaits k hk (by rw [hnil]; rfl)
      simp [grantEnabled, hfree k hk, hidle, hsome]
    obtain ⟨k, hnk, hstep⟩ := hfair.sequencer n fun k hk => by simp [sequencerEnabled, hready k hk]
    have hidle := (run_inv hrun hinv k).owner_eq_none_iff.mp (hfree k hnk)
    unfold sequencerStep at hstep
    split at hstep
    · simp [seqEnabled, hidle] at hstep
    · rename_i g hm
      obtain ⟨q, hq⟩ := Option.isSome_iff_exists.mp (Bool.and_eq_true_iff.mp hstep).2
      obtain ⟨ms, j, hn⟩ := hrun k
      obtain ⟨c, -, heq⟩ := grantMove_of_free ((run_inv hrun hinv k).setMoves ms j) (hfree k hnk) hq
      rw [hm] at hn
      have hgranted := congrArg (fun u : State => u.owner) (Host.Outcome.next.inj (heq.symm.trans hn))
      cases hgranted.trans (hfree (k + 1) (by omega))
    · cases hstep
  obtain ⟨b, hb⟩ := not_forall.mp hlost
  obtain ⟨hnb, hne⟩ := Classical.not_imp.mp hb
  obtain ⟨k, hnk, hk, hk'⟩ := exists_last_before (P := fun k => (r k).owner = none) hnb ho hne
  obtain ⟨-, g, hm, hg⟩ | ⟨hfree, -⟩ :=
    (runStep hrun k).owner_cases (run_inv hrun hinv k) fun heq => hk' (heq.trans hk)
  · exact ⟨k, g, hnk, hm, hk, hg⟩
  · exact absurd hfree hk'

/-- While a host waits and no transaction hangs, the sequencer grants the lock again and again. -/
theorem run_grants (hgoes : ∀ n h, ¬Hangs r n h) {n : Nat} {h : HostId}
    (hwaits : ∀ k, n ≤ k → mapGet (r k).waiters h ≠ none) :
    ∃ k g, n ≤ k ∧ m k = .grant g ∧ (r k).owner = none ∧ (r (k + 1)).owner = some g := by
  cases ho : (r n).owner with
  | none => exact run_grants_of_free hrun hinv hfair hwaits ho
  | some o =>
    obtain ⟨j, hnj, -, hfree, -⟩ := run_releases hrun hinv hfair ho (hgoes n o)
    obtain ⟨k, g, hjk, hgrant⟩ := run_grants_of_free hrun hinv hfair
      (n := j + 1) (fun k hk => hwaits k (by omega)) hfree
    exact ⟨k, g, by omega, hgrant⟩

end run

end Sys2Proof.Machine

namespace Sys2Proof.Proofs
open Sys2Proof.Machine

/-- Settles O55: a transaction that keeps the lock for ever hangs; and a host that waits for ever sees
infinitely many grants, which a fair choice excludes. -/
theorem fairRunFinishesAndGrants : Obligations.FairRunFinishesAndGrants := by
  unfold Obligations.FairRunFinishesAndGrants
  intro m r hrun hinv hfair
  refine ⟨fun n h ho hgoes => run_releases hrun hinv hfair ho hgoes,
    fun hgoes hchoice n h hw => ?waiter⟩
  case waiter =>
    have hlost : ¬∀ k, n ≤ k → mapGet (r k).waiters h ≠ none := by
      intro hwaits
      obtain ⟨k, hnk, hgone⟩ := hchoice (fun j => by
        obtain ⟨k, g, hjk, hgrant⟩ := run_grants hrun hinv hfair hgoes (n := max n j)
          fun k hk => hwaits k ((le_max_left n j).trans hk)
        exact ⟨k, g, (le_max_right n j).trans hjk, hgrant⟩) h n
      exact hwaits k hnk hgone
    obtain ⟨b, hb⟩ := not_forall.mp hlost
    obtain ⟨hnb, hgone⟩ := Classical.not_imp.mp hb
    obtain ⟨k, hnk, hk, hk'⟩ := exists_last_before (P := fun k => mapGet (r k).waiters h ≠ none) hnb hw hgone
    obtain ⟨ms, j, hn⟩ := hrun k
    exact ⟨k, hnk, hk, not_not.mp hk',
      perform_waiter_leaves ((run_inv hrun hinv k).setMoves ms j) hn hk (not_not.mp hk')⟩

end Sys2Proof.Proofs
end
